-- ==== Sys2Proof/Word.lean ====
section
/-! DEFINITION. The words of the K420: bytes of the serial line and 32-bit cell time. -/

namespace Sys2Proof

/-- One byte of a frame (R195, R196). -/
abbrev Byte := BitVec 8

/-- The payload of a request or reply frame (R196). -/
abbrev Payload := List Byte

/-- Cell time: milliseconds since the last power-on or RESET pin reset, 32 bits, wrapping (00_scope section 4). -/
abbrev Time := BitVec 32

end Sys2Proof
end

