-- ==== Sys2Proof/Syntax.lean ====
section
/-! DEFINITION. The commands the K420 takes: one constructor of `Instr` per row of spec/opcode_table.json.

A request of the host carries the PAYLOAD of its frame as raw bytes (R196, R199), so that the port's own length check
(R198) and the field positions of BAD_ARG belong to the model; each constructor's docstring gives the payload in the
order of R205. The other commands carry the operands of the event they name. -/

namespace Sys2Proof

/-- Presses are numbered 1 to 4 (00_scope 5.2). -/
inductive PressId where
  | p1 | p2 | p3 | p4
  deriving DecidableEq, Repr

/-- Cavities are numbered 0 and 1 (00_scope 5.2). -/
inductive Cavity where
  | c0 | c1
  deriving DecidableEq, Repr

/-- Ejector channels are numbered 0 to 3 within each press (00_scope 5.2). -/
inductive Channel where
  | ch0 | ch1 | ch2 | ch3
  deriving DecidableEq, Repr

/-- The eight inputs of a press (02 section 2.1), in the order of R51's status. -/
inductive PressInput where
  | guard | heatPermit | closedSw | openSw | loadedSw | unloadedSw | partFree0 | partFree1
  deriving DecidableEq, Repr

/-- The four timeout timers of a press sequencer (R28). -/
inductive TimeoutTimer where
  | loadT | closeT | openT | clearT
  deriving DecidableEq, Repr

/-- A reading on a temperature stream (R57): a value in tenths of a degree, OPEN, ERR, or an item that arrived
corrupted, which is taken as ERR. -/
inductive StreamReading where
  | value (t : Int) | openCode | errCode | corrupted
  deriving DecidableEq, Repr

/-- A sample on the scale stream (R124): a signed 24-bit raw count, ERR, or a corrupted item, taken as ERR. -/
inductive ScaleSample where
  | raw (n : Int) | errCode | corrupted
  deriving DecidableEq, Repr

/-- One byte as it arrives on the line (R197): whether it comes more than 1 ms after the byte before it, and whether
it has a framing error. -/
structure LineItem where
  byte : Byte
  late : Bool
  framing : Bool
  deriving DecidableEq, Repr

/-- The commands, in the order of spec/opcode_table.json. -/
inductive Instr where
  /-- POWER_ON: supply is applied; the operands are the levels of the straps ADR4..ADR0 and RATE1, RATE0 (R195, R203). -/
  | powerOn (adr : BitVec 5) (rate : BitVec 2)
  /-- RESET_PIN: a low level on RESET_N; the straps are read as at power-on (R195, R203). -/
  | resetPin (adr : BitVec 5) (rate : BitVec 2)
  /-- FRAME_DISCARDED: line bytes that end in a dropped frame (R197). -/
  | frameDiscarded (items : List LineItem)
  /-- UNKNOWN_REQUEST_TYPE: a complete frame for this station whose type byte names no request (R198, R199). -/
  | unknownRequestType (type : Byte) (payload : Payload)
  /-- REPLY_COMPLETE: the last byte of a reply is sent (R198). -/
  | replyComplete
  /-- IDENTIFY, 0x01: no payload (R200). -/
  | identify (payload : Payload)
  /-- GET_STATUS, 0x02: no payload (R200). -/
  | getStatus (payload : Payload)
  /-- CELL_CONFIG, 0x03: feed limit 2, N 1, S 1, B 2, tare max 2, press input filter time 1, station filter time 1 (R201). -/
  | cellConfig (payload : Payload)
  /-- CELL_RESET, 0x04: no payload (R202). -/
  | cellReset (payload : Payload)
  /-- GET_RESTART, 0x05: no payload (R203). -/
  | getRestart (payload : Payload)
  /-- CLEAR_RESTART, 0x06: no payload (R203). -/
  | clearRestart (payload : Payload)
  /-- RECIPE_BEGIN, 0x10: id, revision, grid rows, grid columns, cavity count, flags (hasRamp, hasEject), 1 each (R5). -/
  | recipeBegin (payload : Payload)
  /-- RECIPE_SECTION, 0x11: section number 1, then the section (R7 to R13, R199). -/
  | recipeSection (payload : Payload)
  /-- RECIPE_ABANDON, 0x12: no payload (R15). -/
  | recipeAbandon (payload : Payload)
  /-- RECIPE_DELETE, 0x13: id 1 (R15). -/
  | recipeDelete (payload : Payload)
  /-- RECIPE_LIST, 0x14: no payload (R17). -/
  | recipeList (payload : Payload)
  /-- BIND_RECIPE, 0x15: press 1, recipe id 1 (R18). -/
  | bindRecipe (payload : Payload)
  /-- PRESS_CONFIG, 0x20: press 1, then the fields of R24's table, 20 + 6 × R × C bytes in all (R199). -/
  | pressConfig (payload : Payload)
  /-- HEAT_MODE, 0x21: press 1, mode 1 (R26). -/
  | heatMode (payload : Payload)
  /-- LOAD, 0x22: press 1 (R31). -/
  | load (payload : Payload)
  /-- RESUME, 0x23: press 1 (R41). -/
  | resume (payload : Payload)
  /-- FORCE_OPEN, 0x24: press 1 (R43). -/
  | forceOpen (payload : Payload)
  /-- ABORT, 0x25: press 1 (R44). -/
  | abort (payload : Payload)
  /-- HEAT_HOLD, 0x26: press 1, action 1 (R49). -/
  | heatHold (payload : Payload)
  /-- MOTION_HOLD, 0x27: press 1, action 1 (R49). -/
  | motionHold (payload : Payload)
  /-- AUTO, 0x28: press 1, flags (autoLoad, autoOrder) 1 (R50). -/
  | auto (payload : Payload)
  /-- PRESS_STATUS, 0x29: press 1 (R51). -/
  | pressStatus (payload : Payload)
  /-- GET_MAP, 0x30: press, platen, row start, row end, column start, column end, order, direction, content, 1 each (R56). -/
  | getMap (payload : Payload)
  /-- RESTORE_SENSOR, 0x31: press 1, zone 1, position 1 (R66). -/
  | restoreSensor (payload : Payload)
  /-- SENSOR_STATUS, 0x32: press 1 (R68). -/
  | sensorStatus (payload : Payload)
  /-- PROVE_START, 0x33: press 1, pairs (zone 1, position 1), pattern 4 × 2, tolerance 1, loop count 2, flags
  (continuous, stopOnError) 1 (R72, R199). -/
  | proveStart (payload : Payload)
  /-- PROVE_STOP, 0x34: press 1 (R76). -/
  | proveStop (payload : Payload)
  /-- PROVE_STATUS, 0x35: press 1 (R79). -/
  | proveStatus (payload : Payload)
  /-- HEAT_STATUS, 0x38: press 1, first zone 1 (R96). -/
  | heatStatus (payload : Payload)
  /-- FEED_STATUS, 0x3C: no payload (R106). -/
  | feedStatus (payload : Payload)
  /-- CURE_STATUS, 0x40: press 1 (R122). -/
  | cureStatus (payload : Payload)
  /-- CAL_ZERO, 0x50: no payload (R130). -/
  | calZero (payload : Payload)
  /-- CAL_SPAN, 0x51: reference mass 4 (R130). -/
  | calSpan (payload : Payload)
  /-- CAL_SET, 0x52: zero 4 signed, span 4 (R131). -/
  | calSet (payload : Payload)
  /-- CAL_COMMIT, 0x53: no payload (R132). -/
  | calCommit (payload : Payload)
  /-- CAL_ROW_WRITTEN: the calibration row write finishes (R132). -/
  | calRowWritten
  /-- WEIGH_STATUS, 0x54: no payload (R143). -/
  | weighStatus (payload : Payload)
  /-- CHARGE_ORDER, 0x58: press 1, cavity 1, count 1 (R146). -/
  | chargeOrder (payload : Payload)
  /-- CANCEL_ORDER, 0x59: order number 1 (R147). -/
  | cancelOrder (payload : Payload)
  /-- GET_STAGING, 0x5A: selector 1 (R154). -/
  | getStaging (payload : Payload)
  /-- EJECT_STATUS, 0x60: press 1 (R167). -/
  | ejectStatus (payload : Payload)
  /-- HISTORY_LIST, 0x70: starting serial 4, count 1 (R177). -/
  | historyList (payload : Payload)
  /-- HISTORY_READ, 0x71: serial 4, part 1 (R178). -/
  | historyRead (payload : Payload)
  /-- HISTORY_NEXT, 0x72: no payload (R178). -/
  | historyNext (payload : Payload)
  /-- HISTORY_RELEASE, 0x73: upTo 4 (R179). -/
  | historyRelease (payload : Payload)
  /-- HISTORY_NOTE, 0x74: serial 4, then the characters (R180, R199). -/
  | historyNote (payload : Payload)
  /-- SET_NEXT_SERIAL, 0x75: serial 4 (R181). -/
  | setNextSerial (payload : Payload)
  /-- CLEAR_FAULTS, 0x78: owner 1 (R187). -/
  | clearFaults (payload : Payload)
  /-- SET_FAULT_MASK, 0x79: owner 1, code 1, setting 1 (R188). -/
  | setFaultMask (payload : Payload)
  /-- GET_FAULTS, 0x7A: owner 1 (R189). -/
  | getFaults (payload : Payload)
  /-- SET_EVENT_MASK, 0x7B: kind 1, setting 1 (R192). -/
  | setEventMask (payload : Payload)
  /-- GET_EVENTS, 0x7C: count 1 (R191). -/
  | getEvents (payload : Payload)
  /-- PRESS_INPUT_RAW_CHANGE: a raw press input takes the given level (R22). -/
  | pressInputRawChange (p : PressId) (input : PressInput) (level : Bool)
  /-- PRESS_INPUT_ACCEPTED: the raw level has held for the filter time (R22). -/
  | pressInputAccepted (p : PressId) (input : PressInput)
  /-- TRAY_PRESENT_RAW_CHANGE: the raw TRAY_PRESENT takes the given level (R133). -/
  | trayPresentRawChange (level : Bool)
  /-- TRAY_PRESENT_ACCEPTED: the raw TRAY_PRESENT has held for the station filter time (R133). -/
  | trayPresentAccepted
  /-- SCAN_MARKER: a scan marker on the press's temperature stream (R58). -/
  | scanMarker (p : PressId)
  /-- TEMPERATURE_READING: a reading on the press's temperature stream (R57, R58, R62). -/
  | temperatureReading (p : PressId) (r : StreamReading)
  /-- OVERDUE_EXPIRY: the press's overdue timer expires (R60). -/
  | overdueExpiry (p : PressId)
  /-- READY_DWELL_REACHED: the ready run reaches the recipe's ready dwell (R29). -/
  | readyDwellReached (p : PressId)
  /-- TIMEOUT_TIMER_EXPIRY: one of the four timeout timers runs out (R28). -/
  | timeoutTimerExpiry (p : PressId) (timer : TimeoutTimer)
  /-- CONTROL_TICK: the press's control tick falls due (R80, R84). -/
  | controlTick (p : PressId)
  /-- BLIND_HOLD_EXPIRY: a zone's blind hold runs out (R91). -/
  | blindHoldExpiry (p : PressId) (zone : Nat)
  /-- ALLOCATION_ROUND: the allocation round falls due (R98, R101). -/
  | allocationRound
  /-- CURE_TICK: the press's cure tick falls due (R109). -/
  | cureTick (p : PressId)
  /-- CURE_TIMER_EXPIRY: the press's cure timer runs out (R117). -/
  | cureTimerExpiry (p : PressId)
  /-- FOLLOWER_DELAY_END: a FOLLOW channel's delay runs out (R158). -/
  | followerDelayEnd (p : PressId) (ch : Channel)
  /-- STROKE_END: a channel's stroke time runs out (R158). -/
  | strokeEnd (p : PressId) (ch : Channel)
  /-- ATTEMPT_TIMER_EXPIRY: a cavity's release timeout runs out (R161). -/
  | attemptTimerExpiry (p : PressId) (c : Cavity)
  /-- SCALE_SAMPLE: a sample on the scale stream (R124, R125). -/
  | scaleSample (x : ScaleSample)
  /-- SAMPLE_TIMER_EXPIRY: no sample for 30 ms, or for a further 10 ms (R126). -/
  | sampleTimerExpiry
  /-- CHARGE_EXPIRY: the oldest expired charge of the press and cavity's staging list expires (R149). -/
  | chargeExpiry (p : PressId) (c : Cavity)
  deriving DecidableEq, Repr

end Sys2Proof
end

