-- ==== Sys2Proof/Decode.lean ====
section
/-! DEFINITION. The words of the serial line: the CRC, frames, and the type codes of the requests (R196, R199). No row of
spec/opcode_table.json is given bits, so `decodeTableWord` reads none; the decoder of requests reads frames instead. -/

namespace Sys2Proof

/-! ## The table's words -/

/-- The command that a word spells by the table's bits: no row of the table has any (log 38). -/
def decodeTableWord (_nbits _w : Nat) : Option Instr := none

/-! ## The CRC (R196) -/

/-- One bit of the CRC: shift out the top bit and divide by the generator polynomial 0x1021. -/
def crcBit (c : BitVec 16) : BitVec 16 := if c.msb then (c <<< 1) ^^^ 0x1021#16 else c <<< 1

/-- One byte of the CRC, not reflected. -/
def crcByte (c : BitVec 16) (b : Byte) : BitVec 16 :=
  crcBit (crcBit (crcBit (crcBit (crcBit (crcBit (crcBit (crcBit (c ^^^ (b.zeroExtend 16 <<< 8)))))))))

/-- CRC-16, polynomial 0x1021, initial value 0xFFFF, no reflection and no final inversion. -/
def crc16 (bs : Payload) : BitVec 16 := bs.foldl crcByte 0xFFFF#16

/-- The CRC as it is sent, most significant byte first. -/
def crcBytes (bs : Payload) : Payload := [(crc16 bs).extractLsb' 8 8, (crc16 bs).extractLsb' 0 8]

/-! ## Frames (R196, R198) -/

/-- The start byte of a frame. -/
def startByte : Byte := 0xA7

/-- The bytes of a frame that the CRC covers: address, type, length, payload. -/
def frameBody (address : BitVec 5) (type : Byte) (payload : Payload) : Payload :=
  address.zeroExtend 8 :: type :: BitVec.ofNat 8 payload.length :: payload

/-- A whole frame. -/
def encodeFrame (address : BitVec 5) (type : Byte) (payload : Payload) : Payload :=
  startByte :: (frameBody address type payload ++ crcBytes (frameBody address type payload))

/-- The frame of a reply: the request's type with its top bit set (R198). -/
def encodeReply (address : BitVec 5) (type : Byte) (payload : Payload) : Payload :=
  encodeFrame address (type ||| 0x80) payload

/-! ## Request types (R199) -/

/-- The request of a type code with a payload; `none` for a code that names no request. -/
def requestOf (type : Byte) (payload : Payload) : Option Instr :=
  match type.toNat with
  | 0x01 => some (.identify payload)
  | 0x02 => some (.getStatus payload)
  | 0x03 => some (.cellConfig payload)
  | 0x04 => some (.cellReset payload)
  | 0x05 => some (.getRestart payload)
  | 0x06 => some (.clearRestart payload)
  | 0x10 => some (.recipeBegin payload)
  | 0x11 => some (.recipeSection payload)
  | 0x12 => some (.recipeAbandon payload)
  | 0x13 => some (.recipeDelete payload)
  | 0x14 => some (.recipeList payload)
  | 0x15 => some (.bindRecipe payload)
  | 0x20 => some (.pressConfig payload)
  | 0x21 => some (.heatMode payload)
  | 0x22 => some (.load payload)
  | 0x23 => some (.resume payload)
  | 0x24 => some (.forceOpen payload)
  | 0x25 => some (.abort payload)
  | 0x26 => some (.heatHold payload)
  | 0x27 => some (.motionHold payload)
  | 0x28 => some (.auto payload)
  | 0x29 => some (.pressStatus payload)
  | 0x30 => some (.getMap payload)
  | 0x31 => some (.restoreSensor payload)
  | 0x32 => some (.sensorStatus payload)
  | 0x33 => some (.proveStart payload)
  | 0x34 => some (.proveStop payload)
  | 0x35 => some (.proveStatus payload)
  | 0x38 => some (.heatStatus payload)
  | 0x3C => some (.feedStatus payload)
  | 0x40 => some (.cureStatus payload)
  | 0x50 => some (.calZero payload)
  | 0x51 => some (.calSpan payload)
  | 0x52 => some (.calSet payload)
  | 0x53 => some (.calCommit payload)
  | 0x54 => some (.weighStatus payload)
  | 0x58 => some (.chargeOrder payload)
  | 0x59 => some (.cancelOrder payload)
  | 0x5A => some (.getStaging payload)
  | 0x60 => some (.ejectStatus payload)
  | 0x70 => some (.historyList payload)
  | 0x71 => some (.historyRead payload)
  | 0x72 => some (.historyNext payload)
  | 0x73 => some (.historyRelease payload)
  | 0x74 => some (.historyNote payload)
  | 0x75 => some (.setNextSerial payload)
  | 0x78 => some (.clearFaults payload)
  | 0x79 => some (.setFaultMask payload)
  | 0x7A => some (.getFaults payload)
  | 0x7B => some (.setEventMask payload)
  | 0x7C => some (.getEvents payload)
  | _ => none

/-- The type code and payload of a request; `none` for a command that no frame carries. -/
def frameOf : Instr → Option (Byte × Payload)
  | .unknownRequestType t payload => some (t, payload)
  | .identify payload => some (0x01, payload)
  | .getStatus payload => some (0x02, payload)
  | .cellConfig payload => some (0x03, payload)
  | .cellReset payload => some (0x04, payload)
  | .getRestart payload => some (0x05, payload)
  | .clearRestart payload => some (0x06, payload)
  | .recipeBegin payload => some (0x10, payload)
  | .recipeSection payload => some (0x11, payload)
  | .recipeAbandon payload => some (0x12, payload)
  | .recipeDelete payload => some (0x13, payload)
  | .recipeList payload => some (0x14, payload)
  | .bindRecipe payload => some (0x15, payload)
  | .pressConfig payload => some (0x20, payload)
  | .heatMode payload => some (0x21, payload)
  | .load payload => some (0x22, payload)
  | .resume payload => some (0x23, payload)
  | .forceOpen payload => some (0x24, payload)
  | .abort payload => some (0x25, payload)
  | .heatHold payload => some (0x26, payload)
  | .motionHold payload => some (0x27, payload)
  | .auto payload => some (0x28, payload)
  | .pressStatus payload => some (0x29, payload)
  | .getMap payload => some (0x30, payload)
  | .restoreSensor payload => some (0x31, payload)
  | .sensorStatus payload => some (0x32, payload)
  | .proveStart payload => some (0x33, payload)
  | .proveStop payload => some (0x34, payload)
  | .proveStatus payload => some (0x35, payload)
  | .heatStatus payload => some (0x38, payload)
  | .feedStatus payload => some (0x3C, payload)
  | .cureStatus payload => some (0x40, payload)
  | .calZero payload => some (0x50, payload)
  | .calSpan payload => some (0x51, payload)
  | .calSet payload => some (0x52, payload)
  | .calCommit payload => some (0x53, payload)
  | .weighStatus payload => some (0x54, payload)
  | .chargeOrder payload => some (0x58, payload)
  | .cancelOrder payload => some (0x59, payload)
  | .getStaging payload => some (0x5A, payload)
  | .ejectStatus payload => some (0x60, payload)
  | .historyList payload => some (0x70, payload)
  | .historyRead payload => some (0x71, payload)
  | .historyNext payload => some (0x72, payload)
  | .historyRelease payload => some (0x73, payload)
  | .historyNote payload => some (0x74, payload)
  | .setNextSerial payload => some (0x75, payload)
  | .clearFaults payload => some (0x78, payload)
  | .setFaultMask payload => some (0x79, payload)
  | .getFaults payload => some (0x7A, payload)
  | .setEventMask payload => some (0x7B, payload)
  | .getEvents payload => some (0x7C, payload)
  | .powerOn _ _ | .resetPin _ _ | .frameDiscarded _ | .replyComplete | .calRowWritten | .pressInputRawChange _ _ _
  | .pressInputAccepted _ _ | .trayPresentRawChange _ | .trayPresentAccepted | .scanMarker _ | .temperatureReading _ _
  | .overdueExpiry _ | .readyDwellReached _ | .timeoutTimerExpiry _ _ | .controlTick _ | .blindHoldExpiry _ _
  | .allocationRound | .cureTick _ | .cureTimerExpiry _ | .followerDelayEnd _ _ | .strokeEnd _ _ | .attemptTimerExpiry _ _
  | .scaleSample _ | .sampleTimerExpiry | .chargeExpiry _ _ => none

/-- The command of a type code and a payload: a request, or an unknown type (R198, R199). -/
def commandOf (type : Byte) (payload : Payload) : Instr := (requestOf type payload).getD (.unknownRequestType type payload)

/-- The bytes that carry a command to a station, for the commands that a frame carries (R196). -/
def encode (address : BitVec 5) (i : Instr) : Option Payload :=
  (frameOf i).map fun tp => encodeFrame address tp.1 tp.2

/-- The command that the bytes of one whole frame carry to a station; `none` for bytes that are no frame of at most 248
payload bytes for this station with a matching CRC (R196, R197). -/
def decodeFrame (address : BitVec 5) (bytes : Payload) : Option Instr :=
  match bytes with
  | start :: addr :: type :: len :: rest =>
    let payload := rest.take len.toNat
    if start = startByte ∧ addr = address.zeroExtend 8 ∧ len.toNat ≤ 248 ∧ rest.length = len.toNat + 2
        ∧ rest.drop len.toNat = crcBytes (addr :: type :: len :: payload) then
      some (commandOf type payload)
    else none
  | _ => none

end Sys2Proof
end

