-- ==== Sys2Proof/Config.lean ====
section
/-! DEFINITION. What the spec leaves to the part: constants with no body, so that nothing can be proved of their values. -/

namespace Sys2Proof

/-- FREE VALUE (log 10): the silicon revision IDENTIFY returns (R200); the spec states no value. -/
opaque Config.siliconRevision : Byte

/-- FREE VALUE (log 2): which of several events that fall at one moment is taken first.
The spec allows every order (R22, R60, R80, R98, R103, R109, R119, R126, R161, R191); the argument is a counter of
State, so that each choice is fresh. -/
opaque Config.eventOrder : Nat → Nat

end Sys2Proof
end

