-- ==== Sys2Proof/Machine/State.lean ====
section
/-! DEFINITION. The state of the K420: every piece of state the spec gives the part, as plain data, and its value after
power-on. Enumerations list their values in the order that codes them (R204). -/

namespace Sys2Proof.Machine

/-! ## Collections of fixed size -/

/-- One value for each press 1 to 4. -/
structure Four (α : Type) where
  p1 : α
  p2 : α
  p3 : α
  p4 : α
  deriving DecidableEq, Repr

/-- One value for each cavity 0 and 1. -/
structure Two (α : Type) where
  c0 : α
  c1 : α
  deriving DecidableEq, Repr

/-- One value for each ejector channel 0 to 3. -/
structure Channels (α : Type) where
  ch0 : α
  ch1 : α
  ch2 : α
  ch3 : α
  deriving DecidableEq, Repr

/-! ## Recipes (01) -/

/-- The name of a recipe with its revision (01 section 1.1). -/
structure RecipeRef where
  id : Nat
  rev : Nat
  deriving DecidableEq, Repr

/-- A recipe's header (R3, R5). -/
structure Header where
  id : Nat
  rev : Nat
  rows : Nat
  cols : Nat
  cavities : Nat
  hasRamp : Bool
  hasEject : Bool
  deriving DecidableEq, Repr

/-- The six sections in the order they are taken (R4). -/
inductive Section where
  | heat | ramp | cure | charge | footprint | eject
  deriving DecidableEq, Repr

/-- HEAT section (R8); the setpoints are in zone order. -/
structure HeatSection where
  setpoints : List Int
  readyBand : Int
  readyDwell : Nat
  deriving DecidableEq, Repr

/-- CURE section (R10): period in ms, breakpoints (temperature, rate), target in equivalent seconds, maximum cure time
in s, bands, excursion allowance in ms. -/
structure CureSection where
  period : Nat
  points : List (Int × Nat)
  target : Nat
  maxTime : Nat
  lowBand : Int
  highBand : Int
  allowance : Nat
  deriving DecidableEq, Repr

/-- One ply of a cavity (R11). -/
structure Ply where
  target : Int
  tolerance : Int
  deriving DecidableEq, Repr

/-- The plies of one cavity in placing order and their total tolerance (R11). -/
structure CavityCharge where
  plies : List Ply
  totalTolerance : Int
  deriving DecidableEq, Repr

/-- CHARGE section (R11); out-life in s. -/
structure ChargeSection where
  cavities : List CavityCharge
  outLife : Nat
  deriving DecidableEq, Repr

inductive Platen where
  | top | bottom
  deriving DecidableEq, Repr

/-- A rectangle of zones on one platen (R54). -/
structure Window where
  platen : Platen
  rowStart : Nat
  rowEnd : Nat
  colStart : Nat
  colEnd : Nat
  deriving DecidableEq, Repr

/-- The TOP window and the BOTTOM window of one cavity (R12). -/
structure Footprint where
  top : Window
  bottom : Window
  deriving DecidableEq, Repr

/-- Role of an ejector channel (R13). -/
inductive Role where
  | off | lead | follow
  deriving DecidableEq, Repr

/-- Settings of one ejector channel (R13); stroke and delay in ms. -/
structure ChannelSettings where
  role : Role
  stroke : Nat
  delay : Nat
  force : Nat
  deriving DecidableEq, Repr

/-- EJECT section, loaded or default (R13, R14). -/
structure EjectSection where
  channels : Channels ChannelSettings
  releaseTimeout : Nat
  maxAttempts : Nat
  deriving DecidableEq, Repr

/-- A complete recipe, as a VALID slot holds it (R3). -/
structure Recipe where
  header : Header
  heat : HeatSection
  ramp : Option Nat
  cure : CureSection
  charge : ChargeSection
  footprint : List Footprint
  eject : EjectSection
  deriving DecidableEq, Repr

/-- The sections accepted so far in a LOADING slot (R3). -/
structure PartialRecipe where
  heat : Option HeatSection
  ramp : Option Nat
  cure : Option CureSection
  charge : Option ChargeSection
  footprint : Option (List Footprint)
  eject : Option EjectSection
  deriving DecidableEq, Repr

/-- A recipe slot (R3). -/
inductive Slot where
  | empty
  | loading (h : Header) (sections : PartialRecipe)
  | valid (r : Recipe)
  deriving DecidableEq, Repr

/-- The recipe store: slots 1 to 8 in order, and the section pointer, `none` for NONE (R3, R4). -/
structure RecipeStore where
  slots : List Slot
  pointer : Option Section
  deriving DecidableEq, Repr

/-! ## Zones, sensors and proving (03, 04, 05, 06) -/

/-- Sensor states (R62); ABSENT belongs to unfitted positions. -/
inductive SensorState where
  | ok | doubtful | failed | proving | absent
  deriving DecidableEq, Repr

/-- The two sensor positions of a zone (R53). -/
inductive Position where
  | primary | spare
  deriving DecidableEq, Repr

/-- A zone's source (R63); `none` is the value NONE. -/
inductive Source where
  | primary | spare | none
  deriving DecidableEq, Repr

/-- One sensor (R53, R62). -/
structure Sensor where
  state : SensorState
  lastGood : Option Int
  bad : Nat
  deriving DecidableEq, Repr

/-- The blind hold of a zone (R80, R90); remaining time in ms. -/
inductive BlindHold where
  | stopped | running (remaining : Nat) | expired
  deriving DecidableEq, Repr

/-- One zone of a press: its configuration (R24), its sensors and mismatch counts (R53, R67), its heat control items
(R80), its feed items (R98) and its cure items (R108). The zones of a press stand in zone order (R53). -/
structure Zone where
  rated : Nat
  primaryFitted : Bool
  spareFitted : Bool
  primary : Sensor
  spare : Sensor
  mismatchRun : Nat
  agreeRun : Nat
  mismatch : Bool
  spe : Option Int
  iacc : Int
  demand : Int
  hold : BlindHold
  hot : Bool
  feedLimited : Bool
  request : Nat
  grant : Nat
  duty : Nat
  dose : Nat
  residue : Nat
  deriving DecidableEq, Repr

/-- A (zone, position) pair, the name of one sensor (R71). -/
structure SensorPos where
  zone : Nat
  position : Position
  deriving DecidableEq, Repr

/-- States of a proving run (R71). -/
inductive RunState where
  | idle | running | passed | failed | stopped | aborted
  deriving DecidableEq, Repr

/-- What PROVE_START gives a run (R71, R72). -/
structure RunParams where
  selection : List SensorPos
  pattern : List Int
  tolerance : Int
  loops : Nat
  continuous : Bool
  stopOnError : Bool
  deriving DecidableEq, Repr

/-- A reading as it is judged: a value or a code (R57). -/
inductive Reading where
  | value (t : Int) | openCode | errCode
  deriving DecidableEq, Repr

/-- A failure of a proving run (R71, R75). -/
structure ProveFailure where
  pos : SensorPos
  index : Nat
  loop : Nat
  reading : Reading
  deriving DecidableEq, Repr

/-- A reference command on the drive stream: the selected positions and the level (R74). -/
structure RefCommand where
  positions : List SensorPos
  level : Int
  deriving DecidableEq, Repr

/-- What a drive stream carries (R94): a transfer of drive duties, each with the number of its zone, or a reference
command. -/
inductive DriveItem where
  | duties (entries : List (Nat × Nat))
  | reference (c : RefCommand)
  deriving DecidableEq, Repr

/-- The run record of a press (R71) and what the run keeps beside it: whether the open scan is a scan of the run (R74),
the reference command in force (R74, R77), and the positions whose readings are discarded after a run, each with the
number of scan closes after which that ends (R77 step 6). -/
structure ProvingRun where
  state : RunState
  params : Option RunParams
  index : Nat
  loopsDone : Nat
  first : Option ProveFailure
  last : Option ProveFailure
  failing : List SensorPos
  inScan : Bool
  command : Option RefCommand
  discard : List (SensorPos × Nat)
  deriving DecidableEq, Repr

/-! ## The press sequencer (02) -/

/-- The twelve press states (R27). -/
inductive PressState where
  | unconfigured | idle | preheat | ready | loading | closing | curing | opening | ejecting | clearing | held | aborting
  deriving DecidableEq, Repr

/-- Heat modes (R26). -/
inductive HeatMode where
  | off | standby | run
  deriving DecidableEq, Repr

/-- The configuration of a press (R24), less its zone entries, which stand in the zones. Times in s. -/
structure PressConfig where
  rows : Nat
  cols : Nat
  kp : Int
  ki : Int
  mismatchBand : Int
  holdLimit : Nat
  overtemp : Int
  standby : Int
  loadTimeout : Nat
  closeTimeout : Nat
  openTimeout : Nat
  clearTimeout : Nat
  deriving DecidableEq, Repr

/-- A filtered input (R22): raw level, how long it has been stable (ms, counted up to 100), accepted level. -/
structure Filtered where
  raw : Bool
  stable : Nat
  accepted : Bool
  deriving DecidableEq, Repr

/-- The eight filtered inputs of a press (02 section 2.1). -/
structure Inputs where
  guard : Filtered
  heatPermit : Filtered
  closedSw : Filtered
  openSw : Filtered
  loadedSw : Filtered
  unloadedSw : Filtered
  partFree0 : Filtered
  partFree1 : Filtered
  deriving DecidableEq, Repr

/-- The four timeout timers: remaining time in ms, `none` when discarded (R28). -/
structure Timers where
  loadT : Option Nat
  closeT : Option Nat
  openT : Option Nat
  clearT : Option Nat
  deriving DecidableEq, Repr

/-! ## Faults (11) -/

/-- Fault codes in the order of the table of R183. -/
inductive FaultCode where
  | overheat | zoneBlind | loadTimeout | closeTimeout | openTimeout | clearTimeout | guardOpen | stuckPart | cureTimeout
  | zoneSpared | sensorFailed | zoneHot | proveFail | sensorMismatch | feedShort | guardLost
  | scaleLost | tareFault | plyReject | chargeReject | overload
  deriving DecidableEq, Repr

/-- Fault classes (R183). -/
inductive FaultClass where
  | stop | degrade | advisory
  deriving DecidableEq, Repr

/-- A fault's qualifier (R183, R204). -/
inductive Qualifier where
  | none | zone (n : Nat) | cavity (c : Cavity) | ply (n : Nat)
  deriving DecidableEq, Repr

/-- The owner of a fault (R183). -/
inductive Owner where
  | cell | press (p : PressId)
  deriving DecidableEq, Repr

/-- An entry of an owner's active STOP faults (R185). -/
structure ActiveFault where
  code : FaultCode
  qual : Qualifier
  time : Time
  deriving DecidableEq, Repr

/-- States of the weigh station (07 section 7.5). -/
inductive StationState where
  | uncalibrated | idle | taring | awaitPly | settling | plyRejected | unloading | faulted
  deriving DecidableEq, Repr

/-- The owner state of a first fault record (R186). -/
inductive OwnerState where
  | press (st : PressState) (prior : Option PressState)
  | station (st : StationState)
  deriving DecidableEq, Repr

/-- The first fault record of a fault log (R186). -/
structure FirstFault where
  code : FaultCode
  cls : FaultClass
  time : Time
  owner : OwnerState
  qual : Qualifier
  deriving DecidableEq, Repr

/-- What the fault and event unit keeps for one owner: the fault log (first fault record and next set), the active STOP
faults, and the codes its mask holds QUIET (R185, R186, R188). The sets of codes stand in the order of R183's table. -/
structure OwnerFaults where
  first : Option FirstFault
  next : List FaultCode
  active : List ActiveFault
  quiet : List FaultCode
  deriving DecidableEq, Repr

/-! ## The cure integrator (06) -/

/-- Cure states (R108). -/
inductive CureState where
  | none | running | ended
  deriving DecidableEq, Repr

/-- The cure timer (R117); remaining time in ms. -/
inductive CureTimer where
  | stopped | running (remaining : Nat) | expired
  deriving DecidableEq, Repr

/-- The cure integrator's items of one cavity (R108); extremes are (minimum, maximum). -/
structure CureCavity where
  complete : Bool
  offset : Option Nat
  excursion : Nat
  extremes : Option (Int × Int)
  degraded : List Nat
  blind : Bool
  undercured : Bool
  deriving DecidableEq, Repr

/-- The cure integrator of a press, less the doses, which stand in the zones (R108, R109, R117). -/
structure Cure where
  state : CureState
  cavities : Two CureCavity
  timer : CureTimer
  closedTime : Option Time
  ticks : Nat
  nextTick : Option Nat
  deriving DecidableEq, Repr

/-! ## The ejection unit (09) -/

/-- Channel states (R156); times left in ms. -/
inductive ChannelState where
  | unused | idle | delaying (left : Nat) | stroking (left : Nat) (force : Nat)
  deriving DecidableEq, Repr

/-- Cavity states of an ejection (R157). -/
inductive EjectState where
  | inactive | attempting | released | halted
  deriving DecidableEq, Repr

/-- The ejection unit's items of one cavity (R157). -/
structure EjectCavity where
  state : EjectState
  escalation : Nat
  seqAttempts : Nat
  start : Option Time
  timer : Option Nat
  totalAttempts : Nat
  totalStrokes : Nat
  releaseTime : Option Nat
  finalForce : Option Nat
  stuck : Bool
  deriving DecidableEq, Repr

/-- The ejection unit of a press (R156, R157). -/
structure Eject where
  channels : Channels ChannelState
  cavities : Two EjectCavity
  deriving DecidableEq, Repr

/-! ## Charges and staging (08) -/

/-- An order of the order queue (R145). -/
structure Order where
  number : Nat
  press : PressId
  cavity : Cavity
  recipe : RecipeRef
  attempts : Nat
  deriving DecidableEq, Repr

/-- A weighed charge in a staging list (R138, R148). -/
structure Charge where
  number : Nat
  press : PressId
  cavity : Cavity
  recipe : RecipeRef
  tare : Int
  masses : List Int
  total : Int
  attempts : Nat
  weighed : Time
  expiry : Time
  deriving DecidableEq, Repr

/-! ## The weigh station (07) -/

/-- A written calibration row (R132). -/
structure CalRow where
  zero : Int
  span : Nat
  time : Time
  deriving DecidableEq, Repr

/-- A calibration row write in progress: the row's number and the values of the copy at acceptance (R132). -/
structure RowWrite where
  row : Nat
  zero : Int
  span : Nat
  deriving DecidableEq, Repr

/-- The calibration working copy (R129); origin 0 is SET, else the row's number. -/
structure WorkingCopy where
  zero : Int
  span : Option Nat
  zeroSet : Bool
  spanSet : Bool
  valid : Bool
  origin : Nat
  deriving DecidableEq, Repr

/-- The build of an attempt in hand (07 opening list, R134). -/
structure Build where
  order : Nat
  press : PressId
  cavity : Cavity
  recipe : RecipeRef
  attempt : Nat
  tare : Option Int
  prev : Option Int
  ply : Nat
  rejects : Nat
  masses : List Int
  deriving DecidableEq, Repr

/-- The weigh parameters: averaging window N, settle count S, settle band B, tare max (07 section 7.4). -/
structure WeighParams where
  n : Nat
  s : Nat
  b : Int
  tareMax : Int
  deriving DecidableEq, Repr

/-- The weigh station (07). `params` are the weigh parameters of the latest accepted CELL_CONFIG, `used` those that apply:
the former from the sample after it on (R133). -/
structure Weigh where
  copy : WorkingCopy
  rows : List (Option CalRow)
  writing : Option RowWrite
  rawWindow : List Int
  massWindow : List Int
  averages : List Int
  errors : Nat
  sampleTimer : Nat
  state : StationState
  params : WeighParams
  used : WeighParams
  filter : Nat
  tray : Filtered
  nextCharge : Nat
  build : Option Build
  deriving DecidableEq, Repr

/-! ## Part history (10) -/

/-- Dispositions (R176). -/
inductive Disposition where
  | aborted | undercured | suspect | good
  deriving DecidableEq, Repr

/-- The reasons of a record, a set (R176). -/
structure Reasons where
  excursion : Bool
  blindZone : Bool
  hardRelease : Bool
  stopped : Bool
  feedShort : Bool
  deriving DecidableEq, Repr

/-- The charge of a part record (R150, R170). -/
structure TakenCharge where
  number : Nat
  tare : Int
  masses : List Int
  total : Int
  attempts : Nat
  weighed : Time
  wait : Nat
  deriving DecidableEq, Repr

/-- The cure summary of a part record (R120), with whether it is finished and whether it is the no-cure form. -/
structure CureSummary where
  closedTime : Option Time
  duration : Option Nat
  lowest : Option (Nat × Nat)
  extremes : Option (Int × Int)
  excursion : Nat
  degraded : List Nat
  blind : Bool
  offset : Option Nat
  undercured : Bool
  finished : Bool
  noCure : Bool
  deriving DecidableEq, Repr

/-- The demould summary of a part record (R166). -/
structure Demould where
  totalAttempts : Nat
  releaseTime : Option Nat
  totalStrokes : Nat
  finalForce : Option Nat
  stuck : Bool
  deriving DecidableEq, Repr

/-- What the close writes into a record (R170, R175). -/
structure Closing where
  disposition : Disposition
  reasons : Reasons
  time : Time
  deriving DecidableEq, Repr

/-- A part record (R170). It is OPEN while `close` is absent and CLOSED from then on (R169). -/
structure PartRecord where
  serial : Nat
  press : PressId
  cavity : Cavity
  recipe : RecipeRef
  reserved : Time
  readFlag : Bool
  charge : Option TakenCharge
  cure : Option CureSummary
  demould : Option Demould
  faults : List FaultCode
  more : Bool
  stopMark : Bool
  feedShortMark : Bool
  close : Option Closing
  note : Option Payload
  deriving DecidableEq, Repr

/-- The part history log: records in ascending serial order, and the serial counter, `none` for EXHAUSTED (R169, R171). -/
structure History where
  records : List PartRecord
  counter : Option Nat
  deriving DecidableEq, Repr

/-! ## Events (11) -/

/-- Event kinds (R190). -/
inductive EventKind where
  | pressState | fault | chargeDone | chargeExpired | chargeScrapped | orderFailed | partClosed | proveDone | historyFull
  | restart
  deriving DecidableEq, Repr

/-- The cause of a restart (R203). -/
inductive RestartCause where
  | powerOn | resetPin | cellReset
  deriving DecidableEq, Repr

/-- The detail of an event (R190, R204). -/
inductive Detail where
  | none
  | pressState (st : PressState) (prior : Option PressState)
  | fault (code : FaultCode) (cls : FaultClass) (qual : Qualifier)
  | charge (c : Cavity)
  | order (c : Cavity) (number : Nat)
  | disposition (d : Disposition)
  | run (r : RunState)
  | cause (c : RestartCause)
  deriving DecidableEq, Repr

/-- An entry of the event queue (R190). -/
structure Event where
  kind : EventKind
  press : Option PressId
  detail : Detail
  number : Option Nat
  time : Time
  deriving DecidableEq, Repr

/-- The event queue with its overflow flag and the disabled kinds, in the order of R190's table (R190, R192). -/
structure EventUnit where
  queue : List Event
  overflow : Bool
  disabled : List EventKind
  deriving DecidableEq, Repr

/-! ## The feed allocator (05) -/

/-- Classes of a press (R98, R100). -/
inductive FeedClass where
  | one | two | three | unclassed
  deriving DecidableEq, Repr

/-- The arithmetic of one class in the latest round (R98, R106). -/
structure ClassTotal where
  requested : Nat
  offered : Nat
  granted : Nat
  scaled : Bool
  deriving DecidableEq, Repr

/-- The feed allocator, less the per-zone items (in the zones) and the per-press items (in the presses) (R98). -/
structure Feed where
  configured : Nat
  inForce : Nat
  class1 : ClassTotal
  class2 : ClassTotal
  class3 : ClassTotal
  lastRound : Option Time
  nextRound : Nat
  deriving DecidableEq, Repr

/-! ## A press and the link -/

/-- Everything that exists once per press. `drive` is what has gone out on the press's drive stream since the last power-on
or RESET pin reset, oldest first (R94; log 31). -/
structure Press where
  state : PressState
  prior : Option PressState
  heatMode : HeatMode
  config : Option PressConfig
  bound : Option RecipeRef
  pendingBinding : Option RecipeRef
  readyRun : Option Nat
  timers : Timers
  hostHeat : Bool
  hostMotion : Bool
  autoLoad : Bool
  autoOrder : Bool
  historyFull : Bool
  inputs : Inputs
  faults : OwnerFaults
  zones : List Zone
  streamPos : Option Nat
  overdue : Option Nat
  run : ProvingRun
  nextTick : Option Nat
  feedClass : FeedClass
  shortfall : Nat
  cure : Cure
  eject : Eject
  staging : Two (List Charge)
  drive : List DriveItem
  deriving DecidableEq, Repr

/-- Port states (R197). -/
inductive PortState where
  | listen | receiving | working | replying
  deriving DecidableEq, Repr

/-- A reply: the request's type and the reply's payload, which begins with the status byte (R198). -/
structure Reply where
  type : Byte
  payload : Payload
  deriving DecidableEq, Repr

/-- The link port (R195, R197): port state, the bytes of the frame being received, the strapped station address and line
rate code, and the reply being sent. -/
structure Link where
  port : PortState
  received : Payload
  address : BitVec 5
  rate : BitVec 2
  reply : Option Reply
  deriving DecidableEq, Repr

/-- The restart record (R203). -/
structure RestartRecord where
  cause : RestartCause
  time : Time
  deriving DecidableEq, Repr

end Sys2Proof.Machine

namespace Sys2Proof.Machine

/-- The state of the part. `pending` is the model's queue of waiting commands (log 1), `choice` the model's counter of
free choices (log 2); everything else is state the spec names. -/
structure State where
  pending : List Instr
  choice : Nat
  time : Time
  link : Link
  restart : Option RestartRecord
  recipes : RecipeStore
  pressFilter : Nat
  presses : Four Press
  feed : Feed
  weigh : Weigh
  orders : List Order
  nextOrder : Nat
  history : History
  cellFaults : OwnerFaults
  events : EventUnit
  deriving DecidableEq, Repr

/-- Reasons the machine stops. The spec gives every row of the table an effect in every state, so there is none: the
type has no constructor (log 36). -/
inductive Fault where
  deriving DecidableEq, Repr

/-- Reasons a command has no meaning. -/
inductive Refusal where
  /-- Raised by `exec` for a row that has no meaning yet, by its mnemonic; safe, since nothing is claimed of the row.
  No arm raises it now. -/
  | notModelled (mnemonic : String)
  deriving DecidableEq, Repr

/-! ## Power-on values -/

/-- A sensor of an unfitted position (R70). -/
def Sensor.absent : Sensor := ⟨.absent, none, 0⟩

/-- A raw input deasserted and stable, accepted deasserted (R22; the raw level is DESIGN CHOICE, log 8). -/
def Filtered.low : Filtered := ⟨false, 100, false⟩

def Inputs.low : Inputs := ⟨.low, .low, .low, .low, .low, .low, .low, .low⟩

/-- No timeout timer runs (R52). -/
def Timers.none : Timers := ⟨.none, .none, .none, .none⟩

/-- Empty log, no active fault, every code REPORT (R194). -/
def OwnerFaults.initial : OwnerFaults := ⟨none, [], [], []⟩

/-- A proving run record that is IDLE (R70); it holds no parameters before its first run (log 21). -/
def ProvingRun.initial : ProvingRun := ⟨.idle, none, 0, 0, none, none, [], false, none, []⟩

/-- Cleared cavity items of the cure integrator (R123). -/
def CureCavity.cleared : CureCavity := ⟨false, none, 0, none, [], false, false⟩

def Cure.initial : Cure := ⟨.none, ⟨.cleared, .cleared⟩, .stopped, none, 0, none⟩

/-- Cleared cavity items of the ejection unit (R157, R168). -/
def EjectCavity.cleared : EjectCavity := ⟨.inactive, 0, 0, none, none, 0, 0, none, none, false⟩

def Eject.initial : Eject := ⟨⟨.unused, .unused, .unused, .unused⟩, ⟨.cleared, .cleared⟩⟩

/-- A duty of 0 for every zone position of a press: two platens of up to three rows and four columns (R53, R94). -/
def DriveItem.allOff : DriveItem := .duties ((List.range 24).map fun i => (i, 0))

/-- A press after power-on or a RESET pin reset, with the given inputs (R52, R70, R94, R97, R107, R123, R155, R168,
R194). -/
def Press.initial (inputs : Inputs) : Press where
  state := .unconfigured
  prior := none
  heatMode := .off
  config := none
  bound := none
  pendingBinding := none
  readyRun := none
  timers := .none
  hostHeat := false
  hostMotion := false
  autoLoad := false
  autoOrder := false
  historyFull := false
  inputs := inputs
  faults := .initial
  zones := []
  streamPos := none
  overdue := none
  run := .initial
  nextTick := none
  feedClass := .unclassed
  shortfall := 0
  cure := .initial
  eject := .initial
  staging := ⟨[], []⟩
  drive := [.allOff]

/-- Class totals after a reset (R107). -/
def ClassTotal.zero : ClassTotal := ⟨0, 0, 0, false⟩

/-- The feed allocator after power-on (R107); the first round falls 500 ms after the reset (DEDUCED, log 4). -/
def Feed.initial : Feed := ⟨0, 0, .zero, .zero, .zero, none, 500⟩

/-- The working copy with no row written (R132). -/
def WorkingCopy.unset : WorkingCopy := ⟨0, none, false, false, false, 0⟩

/-- The weigh parameters after power-on (R133). -/
def WeighParams.initial : WeighParams := ⟨4, 10, 10, 20000⟩

/-- The weigh station after power-on with the given rows, working copy and station state and TRAY_PRESENT (R133, R144). -/
def Weigh.initial (rows : List (Option CalRow)) (copy : WorkingCopy) (st : StationState) (tray : Filtered) : Weigh where
  copy := copy
  rows := rows
  writing := none
  rawWindow := []
  massWindow := []
  averages := []
  errors := 0
  sampleTimer := 30
  state := st
  params := .initial
  used := .initial
  filter := 0
  tray := tray
  nextCharge := 1
  build := none

/-- The eight EMPTY slots and the pointer NONE (R21). -/
def RecipeStore.initial : RecipeStore := ⟨List.replicate 8 .empty, none⟩

/-- The event unit after a reset with the given cause: RESTART alone in the queue (R194). -/
def EventUnit.afterReset (c : RestartCause) (t : Time) (disabled : List EventKind) : EventUnit :=
  ⟨[⟨.restart, none, .cause c, none, t⟩], false, disabled⟩

/-- The machine right after reset: power-on with no calibration row written, every strap low and every raw input
deasserted (those three are DESIGN CHOICE, log 7, 8, 9). -/
def State.reset : State where
  pending := []
  choice := 0
  time := 0
  link := ⟨.listen, [], 0, 0, none⟩
  restart := some ⟨.powerOn, 0⟩
  recipes := .initial
  pressFilter := 0
  presses := ⟨.initial .low, .initial .low, .initial .low, .initial .low⟩
  feed := .initial
  weigh := .initial [none, none, none, none] .unset .uncalibrated .low
  orders := []
  nextOrder := 0
  history := ⟨[], some 1⟩
  cellFaults := .initial
  events := .afterReset .powerOn 0 []

end Sys2Proof.Machine
end

