-- ==== Sys2Proof/Machine/Operands.lean ====
section
/-! DEFINITION. The fields of payloads: reading the fields of a request (R199, R205), writing the fields of a reply
(R204, R205), the codes of enumerations (R204), and the arithmetic conventions of R1. -/

namespace Sys2Proof.Machine

/-! ## Collections of fixed size -/

def Four.get {α : Type} (f : Four α) : PressId → α
  | .p1 => f.p1
  | .p2 => f.p2
  | .p3 => f.p3
  | .p4 => f.p4

def Four.upd {α : Type} (f : Four α) (p : PressId) (g : α → α) : Four α :=
  match p with
  | .p1 => { f with p1 := g f.p1 }
  | .p2 => { f with p2 := g f.p2 }
  | .p3 => { f with p3 := g f.p3 }
  | .p4 => { f with p4 := g f.p4 }

def Two.get {α : Type} (f : Two α) : Cavity → α
  | .c0 => f.c0
  | .c1 => f.c1

def Two.upd {α : Type} (f : Two α) (c : Cavity) (g : α → α) : Two α :=
  match c with
  | .c0 => { f with c0 := g f.c0 }
  | .c1 => { f with c1 := g f.c1 }

def Channels.get {α : Type} (f : Channels α) : Channel → α
  | .ch0 => f.ch0
  | .ch1 => f.ch1
  | .ch2 => f.ch2
  | .ch3 => f.ch3

def Channels.upd {α : Type} (f : Channels α) (c : Channel) (g : α → α) : Channels α :=
  match c with
  | .ch0 => { f with ch0 := g f.ch0 }
  | .ch1 => { f with ch1 := g f.ch1 }
  | .ch2 => { f with ch2 := g f.ch2 }
  | .ch3 => { f with ch3 := g f.ch3 }

/-- The presses in press order. -/
def allPresses : List PressId := [.p1, .p2, .p3, .p4]

/-- The ejector channels in channel order. -/
def allChannels : List Channel := [.ch0, .ch1, .ch2, .ch3]

/-- The press inputs in the order of 02 section 2.1. -/
def allInputs : List PressInput :=
  [.guard, .heatPermit, .closedSw, .openSw, .loadedSw, .unloadedSw, .partFree0, .partFree1]

def allTimers : List TimeoutTimer := [.loadT, .closeT, .openT, .clearT]

/-! ## Arithmetic (R1) -/

/-- A quotient rounded to nearest, ties away from zero, for a positive divisor (R1). -/
def roundDiv (n : Int) (d : Nat) : Int :=
  if 0 ≤ n then (2 * n + d) / (2 * d) else -((2 * (-n) + d) / (2 * d))

/-- A quantity clamped to a range (R1). -/
def clamp (lo hi x : Int) : Int := if x < lo then lo else if hi < x then hi else x

/-! ## Reading the fields of a request -/

/-- The unsigned value of a field, most significant byte first (R196). -/
def beNat (bs : List Byte) : Nat := bs.foldl (fun n b => n * 256 + b.toNat) 0

/-- A field of `w` bytes read as signed (R205). -/
def signedField (w : Nat) (n : Nat) : Int := if n < 256 ^ w / 2 then n else n - 256 ^ w

/-- The consecutive fields of a payload, of the given widths in bytes (R205). -/
def readFields : List Nat → Payload → List Nat
  | [], _ => []
  | w :: ws, bs => beNat (bs.take w) :: readFields ws (bs.drop w)

/-- The position, counting from 1, of the first field that fails its check (R198). -/
def firstFailing : List Bool → Option Nat
  | [] => none
  | true :: rest => (firstFailing rest).map (· + 1)
  | false :: _ => some 1

def inRange (lo hi n : Nat) : Bool := lo ≤ n && n ≤ hi

/-- Bit `k` of a flags byte, from bit 0 in the order the rule names the flags (R205). -/
def flagBit (n k : Nat) : Bool := n.testBit k

/-- A press number (00_scope 5.2). -/
def pressOf (n : Nat) : Option PressId :=
  match n with
  | 1 => some .p1
  | 2 => some .p2
  | 3 => some .p3
  | 4 => some .p4
  | _ => none

def cavityOf (n : Nat) : Option Cavity :=
  match n with
  | 0 => some .c0
  | 1 => some .c1
  | _ => none

/-- The owner of a fault request: a press number, or CELL coded 0 (R187, R205). -/
def ownerOf (n : Nat) : Option Owner :=
  match n with
  | 0 => some .cell
  | n => (pressOf n).map .press

def positionOf (n : Nat) : Option Position :=
  match n with
  | 0 => some .primary
  | 1 => some .spare
  | _ => none

def platenOf (n : Nat) : Option Platen :=
  match n with
  | 0 => some .top
  | 1 => some .bottom
  | _ => none

def heatModeOf (n : Nat) : Option HeatMode :=
  match n with
  | 0 => some .off
  | 1 => some .standby
  | 2 => some .run
  | _ => none

def roleOf (n : Nat) : Option Role :=
  match n with
  | 0 => some .off
  | 1 => some .lead
  | 2 => some .follow
  | _ => none

/-- Section numbers follow R4, from 0 (R204). -/
def sectionOf (n : Nat) : Option Section :=
  match n with
  | 0 => some .heat
  | 1 => some .ramp
  | 2 => some .cure
  | 3 => some .charge
  | 4 => some .footprint
  | 5 => some .eject
  | _ => none

/-! ## Codes of enumerations (R204) -/

def pressCode : PressId → Nat
  | .p1 => 1
  | .p2 => 2
  | .p3 => 3
  | .p4 => 4

def cavityCode : Cavity → Nat
  | .c0 => 0
  | .c1 => 1

def channelCode : Channel → Nat
  | .ch0 => 0
  | .ch1 => 1
  | .ch2 => 2
  | .ch3 => 3

def timerCode : TimeoutTimer → Nat
  | .loadT => 0
  | .closeT => 1
  | .openT => 2
  | .clearT => 3

def Section.code : Section → Nat
  | .heat => 0
  | .ramp => 1
  | .cure => 2
  | .charge => 3
  | .footprint => 4
  | .eject => 5

/-- The code of a sensor state: the places of R62's table; ABSENT, which R62 names only after its table, is 4 (R204; log 65). -/
def SensorState.code : SensorState → Nat
  | .ok => 0
  | .doubtful => 1
  | .failed => 2
  | .proving => 3
  | .absent => 4

def Position.code : Position → Nat
  | .primary => 0
  | .spare => 1

def Source.code : Source → Nat
  | .primary => 0
  | .spare => 1
  | .none => 2

def RunState.code : RunState → Nat
  | .idle => 0
  | .running => 1
  | .passed => 2
  | .failed => 3
  | .stopped => 4
  | .aborted => 5

def PressState.code : PressState → Nat
  | .unconfigured => 0
  | .idle => 1
  | .preheat => 2
  | .ready => 3
  | .loading => 4
  | .closing => 5
  | .curing => 6
  | .opening => 7
  | .ejecting => 8
  | .clearing => 9
  | .held => 10
  | .aborting => 11

def HeatMode.code : HeatMode → Nat
  | .off => 0
  | .standby => 1
  | .run => 2

/-- The codes of R183's table, a shared row's codes in the order written (R204). -/
def allCodes : List FaultCode :=
  [.overheat, .zoneBlind, .loadTimeout, .closeTimeout, .openTimeout, .clearTimeout, .guardOpen, .stuckPart, .cureTimeout,
    .zoneSpared, .sensorFailed, .zoneHot, .proveFail, .sensorMismatch, .feedShort, .guardLost,
    .scaleLost, .tareFault, .plyReject, .chargeReject, .overload]

def FaultCode.code : FaultCode → Nat
  | .overheat => 0
  | .zoneBlind => 1
  | .loadTimeout => 2
  | .closeTimeout => 3
  | .openTimeout => 4
  | .clearTimeout => 5
  | .guardOpen => 6
  | .stuckPart => 7
  | .cureTimeout => 8
  | .zoneSpared => 9
  | .sensorFailed => 10
  | .zoneHot => 11
  | .proveFail => 12
  | .sensorMismatch => 13
  | .feedShort => 14
  | .guardLost => 15
  | .scaleLost => 16
  | .tareFault => 17
  | .plyReject => 18
  | .chargeReject => 19
  | .overload => 20

def FaultClass.code : FaultClass → Nat
  | .stop => 0
  | .degrade => 1
  | .advisory => 2

def StationState.code : StationState → Nat
  | .uncalibrated => 0
  | .idle => 1
  | .taring => 2
  | .awaitPly => 3
  | .settling => 4
  | .plyRejected => 5
  | .unloading => 6
  | .faulted => 7

def CureState.code : CureState → Nat
  | .none => 0
  | .running => 1
  | .ended => 2

def CureTimer.code : CureTimer → Nat
  | .stopped => 0
  | .running _ => 1
  | .expired => 2

def BlindHold.code : BlindHold → Nat
  | .stopped => 0
  | .running _ => 1
  | .expired => 2

def Role.code : Role → Nat
  | .off => 0
  | .lead => 1
  | .follow => 2

def ChannelState.code : ChannelState → Nat
  | .unused => 0
  | .idle => 1
  | .delaying _ => 2
  | .stroking _ _ => 3

def EjectState.code : EjectState → Nat
  | .inactive => 0
  | .attempting => 1
  | .released => 2
  | .halted => 3

def Disposition.code : Disposition → Nat
  | .aborted => 0
  | .undercured => 1
  | .suspect => 2
  | .good => 3

def RestartCause.code : RestartCause → Nat
  | .powerOn => 0
  | .resetPin => 1
  | .cellReset => 2

/-- The ten event kinds in the order of R190's table. -/
def allKinds : List EventKind :=
  [.pressState, .fault, .chargeDone, .chargeExpired, .chargeScrapped, .orderFailed, .partClosed, .proveDone, .historyFull,
    .restart]

def EventKind.code : EventKind → Nat
  | .pressState => 0
  | .fault => 1
  | .chargeDone => 2
  | .chargeExpired => 3
  | .chargeScrapped => 4
  | .orderFailed => 5
  | .partClosed => 6
  | .proveDone => 7
  | .historyFull => 8
  | .restart => 9

/-- The class of each fault code (R183). -/
def FaultCode.cls : FaultCode → FaultClass
  | .overheat | .zoneBlind | .loadTimeout | .closeTimeout | .openTimeout | .clearTimeout | .guardOpen | .stuckPart
  | .cureTimeout | .scaleLost => .stop
  | .zoneSpared | .sensorFailed | .zoneHot | .proveFail => .degrade
  | .sensorMismatch | .feedShort | .guardLost | .tareFault | .plyReject | .chargeReject | .overload => .advisory

/-- Whether a code belongs to the cell's catalogue (R183). -/
def FaultCode.ofCell : FaultCode → Bool
  | .scaleLost | .tareFault | .plyReject | .chargeReject | .overload => true
  | _ => false

/-- The codes of an owner's catalogue, in code order (R183, R188). -/
def catalogue : Owner → List FaultCode
  | .cell => allCodes.filter FaultCode.ofCell
  | .press _ => allCodes.filter (fun c => !c.ofCell)

/-- The seven classes of a class line in FEED_STATUS: 1, 2, 3, unclassed, UNCONFIGURED (log 14). -/
def FeedClass.code : FeedClass → Nat
  | .one => 0
  | .two => 1
  | .three => 2
  | .unclassed => 3

/-- The status codes of a reply (R198). -/
inductive Status where
  | unknownType | badLength | badArg | badState | busy | sequence | inUse | full | noCharge | noRecord
  deriving DecidableEq, Repr

def Status.code : Status → Byte
  | .unknownType => 0x01
  | .badLength => 0x02
  | .badArg => 0x03
  | .badState => 0x04
  | .busy => 0x05
  | .sequence => 0x06
  | .inUse => 0x07
  | .full => 0x08
  | .noCharge => 0x09
  | .noRecord => 0x0A

/-! ## Writing the fields of a reply (R196, R205) -/

def u8 (n : Nat) : Payload := [BitVec.ofNat 8 n]

def u16 (n : Nat) : Payload := [BitVec.ofNat 8 (n / 256), BitVec.ofNat 8 n]

def u32 (n : Nat) : Payload :=
  [BitVec.ofNat 8 (n / 16777216), BitVec.ofNat 8 (n / 65536), BitVec.ofNat 8 (n / 256), BitVec.ofNat 8 n]

/-- A signed field of two bytes. -/
def i16 (z : Int) : Payload := u16 (BitVec.ofInt 16 z).toNat

/-- A signed field of four bytes. -/
def i32 (z : Int) : Payload := u32 (BitVec.ofInt 32 z).toNat

/-- A cell time. -/
def time32 (t : Time) : Payload := u32 t.toNat

/-- Optional fields: all ones when absent in an unsigned field, the most negative value in a signed one (R205). -/
def optU8 (n : Option Nat) : Payload := u8 (n.getD 0xFF)

def optU16 (n : Option Nat) : Payload := u16 (n.getD 0xFFFF)

def optU32 (n : Option Nat) : Payload := u32 (n.getD 0xFFFFFFFF)

def optI16 (z : Option Int) : Payload := i16 (z.getD (-32768))

def optI32 (z : Option Int) : Payload := i32 (z.getD (-2147483648))

def optTime (t : Option Time) : Payload := optU32 (t.map BitVec.toNat)

/-- Flags that share one byte, from bit 0 (R205). -/
def flags (bs : List Bool) : Payload := u8 (bs.foldr (fun b n => (if b then 1 else 0) + 2 * n) 0)

/-- A list whose length varies: a one-byte count, then its entries (R205). -/
def counted {α : Type} (f : α → Payload) (xs : List α) : Payload := u8 xs.length ++ xs.flatMap f

/-- A qualifier: a kind and a value, two bytes (R204); the value that goes with the kind none is 0 (log 64). -/
def Qualifier.bytes : Qualifier → Payload
  | .none => u8 0 ++ u8 0
  | .zone n => u8 1 ++ u8 n
  | .cavity c => u8 2 ++ u8 (cavityCode c)
  | .ply n => u8 3 ++ u8 n

/-- An entry of the active STOP faults: code, qualifier, time (R185, R187). -/
def ActiveFault.bytes (f : ActiveFault) : Payload := u8 f.code.code ++ f.qual.bytes ++ time32 f.time

/-- The four detail bytes of an event entry (R204). -/
def Detail.bytes : Detail → Payload
  | .none => [0, 0, 0, 0]
  | .pressState st prior => u8 st.code ++ optU8 (prior.map PressState.code) ++ [0, 0]
  | .fault code cls q => u8 code.code ++ u8 cls.code ++ q.bytes
  | .charge c => u8 (cavityCode c) ++ [0, 0, 0]
  | .order c n => u8 (cavityCode c) ++ u8 n ++ [0, 0]
  | .disposition d => u8 d.code ++ [0, 0, 0]
  | .run r => u8 r.code ++ [0, 0, 0]
  | .cause c => u8 c.code ++ [0, 0, 0]

/-- An event entry, 14 bytes (R204). -/
def Event.bytes (e : Event) : Payload :=
  u8 e.kind.code ++ u8 ((e.press.map pressCode).getD 0) ++ e.detail.bytes ++ u32 (e.number.getD 0) ++ time32 e.time

/-- The restart record, or absent values in its place (R203, R205). -/
def restartBytes (r : Option RestartRecord) : Payload :=
  optU8 (r.map (fun x => x.cause.code)) ++ optTime (r.map (fun x => x.time))

end Sys2Proof.Machine
end

