-- ==== Sys2Proof/Machine/Flags.lean ====
section
/-! DEFINITION. The levels and conditions the spec computes from the state: zone sources and values, inhibit gates,
outputs, drive duties, ATTN, the recipe a press works to, and whether a recipe is in use. -/

namespace Sys2Proof.Machine

/-! ## Access to a press -/

def State.press (s : State) (p : PressId) : Press := s.presses.get p

/-- The state with press `p` changed by `f`, everything else kept. -/
def State.updPress (s : State) (p : PressId) (f : Press → Press) : State :=
  { s with presses := s.presses.upd p f }

def Inputs.get (i : Inputs) : PressInput → Filtered
  | .guard => i.guard
  | .heatPermit => i.heatPermit
  | .closedSw => i.closedSw
  | .openSw => i.openSw
  | .loadedSw => i.loadedSw
  | .unloadedSw => i.unloadedSw
  | .partFree0 => i.partFree0
  | .partFree1 => i.partFree1

def Inputs.upd (i : Inputs) (k : PressInput) (f : Filtered → Filtered) : Inputs :=
  match k with
  | .guard => { i with guard := f i.guard }
  | .heatPermit => { i with heatPermit := f i.heatPermit }
  | .closedSw => { i with closedSw := f i.closedSw }
  | .openSw => { i with openSw := f i.openSw }
  | .loadedSw => { i with loadedSw := f i.loadedSw }
  | .unloadedSw => { i with unloadedSw := f i.unloadedSw }
  | .partFree0 => { i with partFree0 := f i.partFree0 }
  | .partFree1 => { i with partFree1 := f i.partFree1 }

/-- The accepted level of a press input (R22). -/
def Press.level (pr : Press) (k : PressInput) : Bool := (pr.inputs.get k).accepted

/-- The part-free input of a cavity (R156). -/
def partFree : Cavity → PressInput
  | .c0 => .partFree0
  | .c1 => .partFree1

/-! ## Zones -/

/-- The number of zones of the configured grid (R53). -/
def Press.zoneCount (pr : Press) : Nat := pr.zones.length

/-- The number of a zone of a grid of `rows` by `cols` (R53). -/
def zoneNumber (rows cols : Nat) (pl : Platen) (r c : Nat) : Nat :=
  match pl with
  | .top => r * cols + c
  | .bottom => rows * cols + (r * cols + c)

/-- The numbers from `a` to `b`, both included. -/
def upTo (a b : Nat) : List Nat := (List.range (b + 1 - a)).map (· + a)

/-- The zone numbers of a window in ROW_MAJOR INCREASING order (R55), which is zone order. -/
def Window.zones (w : Window) (rows cols : Nat) : List Nat :=
  (upTo w.rowStart w.rowEnd).flatMap fun r => (upTo w.colStart w.colEnd).map fun c => zoneNumber rows cols w.platen r c

/-- The zone numbers of a window in COLUMN_MAJOR INCREASING order (R55). -/
def Window.zonesByColumn (w : Window) (rows cols : Nat) : List Nat :=
  (upTo w.colStart w.colEnd).flatMap fun c => (upTo w.rowStart w.rowEnd).map fun r => zoneNumber rows cols w.platen r c

/-- The zones of a footprint in zone order: its TOP window, then its BOTTOM window (R108, R121). -/
def Footprint.zones (f : Footprint) (rows cols : Nat) : List Nat :=
  f.top.zones rows cols ++ f.bottom.zones rows cols

/-- A sensor is usable when it is OK, or DOUBTFUL with a last good reading (R63). -/
def Sensor.usable (x : Sensor) : Bool :=
  match x.state with
  | .ok => true
  | .doubtful => x.lastGood.isSome
  | _ => false

/-- The source of a zone (R63). -/
def Zone.source (z : Zone) : Source :=
  if z.primary.usable then .primary else if z.spare.usable then .spare else .none

/-- The zone value: the last good reading of the source sensor (R63). -/
def Zone.value (z : Zone) : Option Int :=
  match z.source with
  | .primary => z.primary.lastGood
  | .spare => z.spare.lastGood
  | .none => none

/-- Whether a zone is blind: its source is NONE (R63). -/
def Zone.isBlind (z : Zone) : Bool := z.source == .none

/-- Whether a zone is proving-blind: blind while at least one of its sensors is PROVING (R65). -/
def Zone.provingBlind (z : Zone) : Bool :=
  z.isBlind && (z.primary.state == .proving || z.spare.state == .proving)

def Zone.sensor (z : Zone) : Position → Sensor
  | .primary => z.primary
  | .spare => z.spare

def Zone.fitted (z : Zone) : Position → Bool
  | .primary => z.primaryFitted
  | .spare => z.spareFitted

def Zone.updSensor (z : Zone) (pos : Position) (f : Sensor → Sensor) : Zone :=
  match pos with
  | .primary => { z with primary := f z.primary }
  | .spare => { z with spare := f z.spare }

/-- The press with zone number `i` changed by `f`. -/
def Press.updZone (pr : Press) (i : Nat) (f : Zone → Zone) : Press :=
  { pr with zones := pr.zones.modify i f }

/-! ## Recipes -/

def Slot.recipe? : Slot → Option Recipe
  | .valid r => some r
  | _ => none

/-- The VALID recipe of an id; a LOADING slot's id is not found (R3). -/
def RecipeStore.find (st : RecipeStore) (id : Nat) : Option Recipe :=
  (st.slots.filterMap Slot.recipe?).find? (fun r => r.header.id == id)

def Header.ref (h : Header) : RecipeRef := ⟨h.id, h.rev⟩

/-- The recipe a press works to (01 section 1.5). -/
def State.boundRecipe (s : State) (p : PressId) : Option Recipe :=
  (s.press p).bound.bind fun r => s.recipes.find r.id

/-- The cavities of a recipe, cavity 0 first. -/
def cavitiesOf (n : Nat) : List Cavity := if n = 1 then [.c0] else [.c0, .c1]

/-- The cavities of the recipe a press is bound to, none when it has no bound recipe. -/
def State.cavities (s : State) (p : PressId) : List Cavity :=
  match s.boundRecipe p with
  | some r => cavitiesOf r.header.cavities
  | none => []

/-- The recipe an order for a press captures: the pending binding, else the bound recipe (R145). -/
def Press.captured (pr : Press) : Option RecipeRef :=
  match pr.pendingBinding with
  | some r => some r
  | none => pr.bound

/-- The zones under a cavity of a press's bound recipe, in zone order. -/
def State.footprint (s : State) (p : PressId) (c : Cavity) : List Nat :=
  match s.boundRecipe p with
  | some r => ((r.footprint[cavityCode c]?).map (fun f => f.zones r.header.rows r.header.cols)).getD []
  | none => []

/-- Whether a recipe id is in use (R16). -/
def State.inUse (s : State) (id : Nat) : Bool :=
  let named : Option RecipeRef → Bool := fun r => r.any (fun x => x.id == id)
  allPresses.any (fun p =>
      named (s.press p).bound || named (s.press p).pendingBinding
        || (s.press p).staging.c0.any (fun c => c.recipe.id == id) || (s.press p).staging.c1.any (fun c => c.recipe.id == id))
    || s.orders.any (fun o => o.recipe.id == id)
    || s.history.records.any (fun r => r.close.isNone && r.recipe.id == id)

/-! ## Press states -/

/-- The active states (R27). -/
def PressState.isActive : PressState → Bool
  | .preheat | .ready | .loading | .closing | .curing | .opening | .ejecting | .clearing => true
  | _ => false

/-- The states of a cycle, in which a press holds OPEN records (R169). -/
def PressState.inCycle : PressState → Bool
  | .loading | .closing | .curing | .opening | .ejecting | .clearing => true
  | _ => false

def Press.configured (pr : Press) : Bool := pr.state != .unconfigured

/-! ## Inhibit gates (R47, R48, R52) -/

/-- The FAULT source of the heat inhibit: an OVERHEAT or ZONE_BLIND entry is active (R47, R185). -/
def Press.heatFault (pr : Press) : Bool :=
  pr.faults.active.any (fun f => f.code == .overheat || f.code == .zoneBlind)

/-- The FAULT source of the motion inhibit: any entry is active (R48, R185). -/
def Press.motionFault (pr : Press) : Bool := !pr.faults.active.isEmpty

/-- The three sources of the heat inhibit: HOST, FAULT, PERMIT; all reported clear in UNCONFIGURED (R47, R52). -/
def Press.heatSources (pr : Press) : List Bool :=
  if pr.configured then [pr.hostHeat, pr.heatFault, !pr.level .heatPermit] else [false, false, false]

/-- The three sources of the motion inhibit: HOST, FAULT, GUARD; all reported clear in UNCONFIGURED (R48, R52). -/
def Press.motionSources (pr : Press) : List Bool :=
  if pr.configured then [pr.hostMotion, pr.motionFault, !pr.level .guard] else [false, false, false]

/-- A gate is asserted while at least one of its sources is (02 section 2.8). -/
def Press.heatInhibit (pr : Press) : Bool := pr.heatSources.any id

def Press.motionInhibit (pr : Press) : Bool := pr.motionSources.any id

/-! ## Outputs (R23) -/

def Press.loadCmd (pr : Press) : Bool := pr.state == .loading

def Press.closeCmd (pr : Press) : Bool := pr.state == .closing && !pr.motionInhibit

/-- OPEN_CMD; a press in ABORTING leaves it at the moment OPEN is accepted-asserted, so that condition is in the state. -/
def Press.openCmd (pr : Press) : Bool := (pr.state == .opening || pr.state == .aborting) && !pr.motionInhibit

/-- An EJECT output is asserted while its channel is STROKING in EJECTING (R23, R156). -/
def Press.ejectOut (pr : Press) (ch : Channel) : Bool :=
  pr.state == .ejecting &&
    match pr.eject.channels.get ch with
    | .stroking _ _ => true
    | _ => false

/-- The force code of an EJECT output: the stroke's force step while asserted, else 1 (R156). -/
def Press.forceCode (pr : Press) (ch : Channel) : Nat :=
  match pr.eject.channels.get ch with
  | .stroking _ f => if pr.state == .ejecting then f else 1
  | _ => 1

/-- Whether a timeout timer counts down (R28). -/
def Press.timerRuns (pr : Press) : TimeoutTimer → Bool
  | .loadT => pr.state == .loading
  | .closeT => pr.closeCmd
  | .openT => pr.openCmd
  | .clearT => pr.state == .clearing

def Timers.get (t : Timers) : TimeoutTimer → Option Nat
  | .loadT => t.loadT
  | .closeT => t.closeT
  | .openT => t.openT
  | .clearT => t.clearT

/-! ## Heat -/

/-- The setpoint SP of a zone (R81). -/
def State.setpoint (s : State) (p : PressId) (i : Nat) : Option Int :=
  match (s.press p).heatMode with
  | .off => none
  | .standby => (s.press p).config.map (fun c => c.standby)
  | .run => (s.boundRecipe p).bind (fun r => r.heat.setpoints[i]?)

/-- A zone value within the ready band of its recipe setpoint; a zone without a value is out of band (R29). -/
def withinBand (h : HeatSection) (i : Nat) (z : Zone) : Bool :=
  match z.value, h.setpoints[i]? with
  | some v, some sp => sp - h.readyBand ≤ v && v ≤ sp + h.readyBand
  | _, _ => false

/-- Every zone of the press is within the ready band (R29). -/
def State.allInBand (s : State) (p : PressId) : Bool :=
  match s.boundRecipe p with
  | some r => ((s.press p).zones.zipIdx).all (fun zi => withinBand r.heat zi.2 zi.1)
  | none => false

/-- What holds every drive duty of a press at 0: the heat inhibit, heat mode OFF, UNCONFIGURED (R93). -/
def Press.heatCut (pr : Press) : Bool := pr.heatInhibit || pr.heatMode == .off || !pr.configured

/-- The drive duty of a zone (R93). -/
def Press.driveDuty (pr : Press) (z : Zone) : Nat := if pr.heatCut then 0 else z.duty

/-- The zones of a press, each with its drive duty, in zone order (R94). -/
def Press.driveDuties (pr : Press) : List (Nat × Nat) := pr.zones.mapIdx fun i z => (i, pr.driveDuty z)

/-- The transfer by which a change of a press reaches its drive stream (R94): none where no drive duty changes; every zone
where the change cuts the heat or gives it back, which affects every zone; else the zones whose duty changes (log 31). -/
def driveTransfer (before after : Press) : List DriveItem :=
  let changed := after.driveDuties.filter fun e => !before.driveDuties.contains e
  if changed.isEmpty then []
  else [.duties (if before.heatCut == after.heatCut then changed else after.driveDuties)]

/-- A press after a change, with what the change sends on its drive stream. -/
def Press.driven (before after : Press) : Press := { after with drive := after.drive ++ driveTransfer before after }

/-- The boards of a press as the items sent to them leave them: the last duty sent for a zone number (R94). -/
def heldDuty (items : List DriveItem) (i : Nat) : Nat :=
  items.foldl (fun d x => match x with
    | .duties es => ((es.find? fun e => e.1 == i).map fun e => e.2).getD d
    | .reference _ => d) 0

/-! ## Attention -/

/-- ATTN is asserted exactly while the event queue holds at least one entry (R193). -/
def State.attn (s : State) : Bool := !s.events.queue.isEmpty

/-- LDE is asserted while the part replies (R198). -/
def State.lde (s : State) : Bool := s.link.port == .replying

end Sys2Proof.Machine
end

