-- ==== Sys2Proof/Machine/Ops.lean ====
section
/-! DEFINITION. Operations shared by the commands: queueing an event, raising a fault and entering HELD, writing and
closing part records, the order queue and automatic ordering, the start and end of a weighing attempt, heat mode
changes, and applying a binding. Each takes the state last. -/

namespace Sys2Proof.Machine

/-! ## Events (R190, R192) -/

/-- Queue an event: nothing for a disabled kind; dropped with the overflow flag set when the queue holds 64 entries. -/
def queueEvent (k : EventKind) (press : Option PressId) (d : Detail) (num : Option Nat) (s : State) : State :=
  if s.events.disabled.contains k then s
  else if 64 ≤ s.events.queue.length then { s with events := { s.events with overflow := true } }
  else { s with events := { s.events with queue := s.events.queue ++ [⟨k, press, d, num, s.time⟩] } }

/-- PRESS_STATE for the press as it stands: the new state, and with HELD the prior state (R51, R190). -/
def queuePressState (p : PressId) (s : State) : State :=
  queueEvent .pressState (some p)
    (.pressState (s.press p).state (if (s.press p).state = .held then (s.press p).prior else none)) none s

/-! ## Part records (R173 to R176) -/

/-- Whether a record is OPEN and of press `p`. -/
def PartRecord.openFor (r : PartRecord) (p : PressId) : Bool := r.close.isNone && r.press == p

/-- Change every OPEN record of a press. -/
def updOpen (p : PressId) (f : PartRecord → PartRecord) (s : State) : State :=
  { s with history := { s.history with records := s.history.records.map (fun r => if r.openFor p then f r else r) } }

/-- The OPEN records of a press, in serial order. -/
def State.openRecords (s : State) (p : PressId) : List PartRecord := s.history.records.filter (fun r => r.openFor p)

/-- Write a fault into a record (R174). -/
def PartRecord.writeFault (c : FaultCode) (r : PartRecord) : PartRecord :=
  { r with
    faults := if r.faults.contains c then r.faults else if r.faults.length < 6 then r.faults ++ [c] else r.faults
    more := r.more || (!r.faults.contains c && 6 ≤ r.faults.length)
    stopMark := r.stopMark || c.cls == .stop
    feedShortMark := r.feedShortMark || c == .feedShort }

/-- Keep the running fields of the cure summaries equal to the integrator's items (R120). -/
def syncCure (p : PressId) (s : State) : State :=
  updOpen p (fun r =>
    { r with cure := r.cure.map fun cs =>
        if cs.finished || cs.noCure then cs else
          let k := (s.press p).cure.cavities.get r.cavity
          { cs with extremes := k.extremes, excursion := k.excursion, degraded := k.degraded, blind := k.blind,
                    offset := k.offset, undercured := k.undercured } }) s

/-- Keep the demould summaries equal to the ejection unit's items (R166). -/
def syncEject (p : PressId) (s : State) : State :=
  updOpen p (fun r =>
    { r with demould := r.demould.map fun _ =>
        let k := (s.press p).eject.cavities.get r.cavity
        ⟨k.totalAttempts, k.releaseTime, k.totalStrokes, k.finalForce, k.stuck⟩ }) s

/-- The least dose among the given zones, and the first zone that holds it (R121). -/
def lowestDose (zs : List Zone) (footprint : List Nat) : Option (Nat × Nat) :=
  footprint.foldl (fun best i =>
    match zs[i]? with
    | none => best
    | some z =>
      match best with
      | none => some (z.dose, i)
      | some (d, j) => if z.dose < d then some (z.dose, i) else some (d, j)) none

/-- Finish a cure summary (R121): lowest dose and duration, both left absent in the no-cure form. -/
def CureSummary.finish (now : Time) (lowest : Option (Nat × Nat)) (cs : CureSummary) : CureSummary :=
  if cs.finished then cs
  else if cs.noCure then { cs with finished := true }
  else { cs with finished := true, lowest := lowest, duration := cs.closedTime.map (fun t => (now - t).toNat) }

/-- Finish the cure summary of each OPEN record of a press (R121). -/
def finishSummaries (p : PressId) (s : State) : State :=
  updOpen p (fun r =>
    { r with cure := r.cure.map (CureSummary.finish s.time (lowestDose (s.press p).zones (s.footprint p r.cavity))) }) s

/-- The first assertion of OPEN_CMD in OPENING finishes the summaries (R121); later ones find them finished. -/
def noteOpenCmd (p : PressId) (s : State) : State :=
  if (s.press p).state = .opening && (s.press p).openCmd then finishSummaries p s else s

/-- The reasons of a record at its close (R176). -/
def State.reasons (s : State) (r : PartRecord) : Reasons where
  excursion := r.cure.any fun cs => (s.recipes.find r.recipe.id).any fun rec => rec.cure.allowance < cs.excursion
  blindZone := r.cure.any fun cs => cs.blind
  hardRelease := r.demould.any fun d => 3 ≤ d.totalAttempts
  stopped := r.stopMark
  feedShort := r.feedShortMark

def Reasons.isEmpty (x : Reasons) : Bool := !(x.excursion || x.blindZone || x.hardRelease || x.stopped || x.feedShort)

/-- The disposition of a record at its close (R176). -/
def disposition (aborted : Bool) (r : PartRecord) (reasons : Reasons) : Disposition :=
  if aborted then .aborted
  else if r.cure.any (fun cs => cs.undercured) then .undercured
  else if reasons.isEmpty then .good else .suspect

/-- Close a record: reasons, disposition, closed time, read flag clear (R175 steps 2 and 3). -/
def PartRecord.closeAs (aborted : Bool) (reasons : Reasons) (now : Time) (r : PartRecord) : PartRecord :=
  { r with readFlag := false, close := some ⟨disposition aborted r reasons, reasons, now⟩ }

/-- Close every OPEN record of a press in serial order (R175). -/
def closeRecords (p : PressId) (aborted : Bool) (s : State) : State :=
  let s1 := finishSummaries p s
  let closed := s1.openRecords p
  let s2 := updOpen p (fun r => r.closeAs aborted (s1.reasons r) s1.time) s1
  closed.foldl (fun t r =>
    queueEvent .partClosed (some p) (.disposition (disposition aborted r (s1.reasons r))) (some r.serial) t) s2

/-! ## Ejection unit: the end of a sequence (R164) -/

def ChannelState.halt : ChannelState → ChannelState
  | .delaying _ => .idle
  | .stroking _ _ => .idle
  | st => st

/-- An ATTEMPTING cavity is HALTED and its attempt timer discarded (R157, R164); the attempt start stays (log 72). -/
def EjectCavity.halt (k : EjectCavity) : EjectCavity :=
  { k with state := if k.state = .attempting then .halted else k.state, timer := none }

def Eject.halt (e : Eject) : Eject where
  channels := ⟨e.channels.ch0.halt, e.channels.ch1.halt, e.channels.ch2.halt, e.channels.ch3.halt⟩
  cavities := ⟨e.cavities.c0.halt, e.cavities.c1.halt⟩

/-! ## Press state changes -/

/-- The timers with one of them started at its full configured value (R28). -/
def freshTimer (pr : Press) (t : TimeoutTimer) : Timers :=
  match pr.config with
  | none => Timers.none
  | some c =>
    match t with
    | .loadT => { Timers.none with loadT := some (c.loadTimeout * 1000) }
    | .closeT => { Timers.none with closeT := some (c.closeTimeout * 1000) }
    | .openT => { Timers.none with openT := some (c.openTimeout * 1000) }
    | .clearT => { Timers.none with clearT := some (c.clearTimeout * 1000) }

/-- Enter a press state other than HELD with the given timers: the prior state and the ready run are gone, and
PRESS_STATE is queued (R28, R42, R51). -/
def enter (p : PressId) (st : PressState) (timers : Timers) (s : State) : State :=
  queuePressState p
    (s.updPress p fun pr => { pr with state := st, prior := none, timers := timers, readyRun := none })

/-- A STOP fault of a press acts by its state (R39): from an active state the press goes to HELD (R40). -/
def stopPress (p : PressId) (s : State) : State :=
  if (s.press p).state.isActive then
    queuePressState p
      (s.updPress p fun pr =>
        { pr with state := .held, prior := some pr.state, timers := Timers.none, readyRun := none
                  eject := if pr.state = .ejecting then pr.eject.halt else pr.eject })
  else s

/-! ## Faults (R184 to R186) -/

def State.ownerFaults (s : State) : Owner → OwnerFaults
  | .cell => s.cellFaults
  | .press p => (s.press p).faults

def State.updOwnerFaults (s : State) (o : Owner) (f : OwnerFaults → OwnerFaults) : State :=
  match o with
  | .cell => { s with cellFaults := f s.cellFaults }
  | .press p => s.updPress p fun pr => { pr with faults := f pr.faults }

/-- Change an owner's active STOP faults: the FAULT source of a press's heat inhibit follows, and with it the drive duties
(R47, R93, R185). -/
def State.updActive (s : State) (o : Owner) (f : OwnerFaults → OwnerFaults) : State :=
  match o with
  | .cell => { s with cellFaults := f s.cellFaults }
  | .press p => s.updPress p fun pr => pr.driven { pr with faults := f pr.faults }

/-- A set of codes with one more, kept in the order of R183's table. R186 gives the next set no order; GET_FAULTS lists it in this
one (R189; log 63). -/
def addCode (c : FaultCode) (set : List FaultCode) : List FaultCode :=
  allCodes.filter (fun x => x == c || set.contains x)

/-- Join the active STOP faults; an entry of the same code and qualifier is left as it is (R185). The set is listed in the order
in which its entries joined (log 61). -/
def OwnerFaults.join (c : FaultCode) (q : Qualifier) (now : Time) (f : OwnerFaults) : OwnerFaults :=
  if f.active.any (fun a => a.code == c && a.qual == q) then f else { f with active := f.active ++ [⟨c, q, now⟩] }

/-- Log a STOP or DEGRADE fault (R186). -/
def OwnerFaults.log (c : FaultCode) (q : Qualifier) (now : Time) (owner : OwnerState) (f : OwnerFaults) : OwnerFaults :=
  match f.first with
  | none => { f with first := some ⟨c, c.cls, now, owner, q⟩ }
  | some _ => { f with next := addCode c f.next }

/-- The owner state of a fault: the press state with its prior state, or the station state (R186). -/
def State.ownerState (s : State) : Owner → OwnerState
  | .cell => .station s.weigh.state
  | .press p => .press (s.press p).state (if (s.press p).state = .held then (s.press p).prior else none)

/-- Raise a fault: the five steps of R184 in their order. -/
def raiseFault (o : Owner) (c : FaultCode) (q : Qualifier) (s : State) : State :=
  let s1 := if c.cls = .stop then s.updActive o (OwnerFaults.join c q s.time) else s
  let s2 := if c.cls = .advisory then s1 else s1.updOwnerFaults o (OwnerFaults.log c q s.time (s.ownerState o))
  let s3 := match o with
    | .press p => updOpen p (PartRecord.writeFault c) s2
    | .cell => s2
  let s4 := if (s3.ownerFaults o).quiet.contains c then s3
    else queueEvent .fault (match o with | .press p => some p | .cell => none) (.fault c c.cls q) none s3
  match o with
  | .press p => if c.cls = .stop then stopPress p s4 else s4
  | .cell => s4

/-! ## The weigh station: starting and dropping an attempt (R134, R139, R141) -/

def StationState.isBuild : StationState → Bool
  | .taring | .awaitPly | .settling | .plyRejected => true
  | _ => false

/-- An attempt starts in IDLE when the queue is not empty and TRAY_PRESENT is asserted (R134). -/
def startBuild (s : State) : State :=
  match s.orders with
  | [] => s
  | o :: _ =>
    if s.weigh.state = .idle && s.weigh.tray.accepted then
      { s with weigh := { s.weigh with
          state := .taring, averages := []
          build := some ⟨o.number, o.press, o.cavity, o.recipe, o.attempts + 1, none, none, 1, 0, []⟩ } }
    else s

/-- The attempt in hand ends without a charge and uncounted, and the station takes the given state (R139). -/
def dropBuild (st : StationState) (s : State) : State :=
  { s with weigh := { s.weigh with state := st, build := none } }

/-! ## The order queue (R145, R152) -/

/-- The next order number, skipping the numbers held by orders in the queue (R145). -/
def freshOrderNumber (orders : List Order) (next : Nat) : Nat :=
  (((List.range 9).map fun k => (next + k) % 256).find? fun n => !orders.any fun o => o.number == n).getD next

/-- Queued orders of a press and cavity. -/
def State.queuedFor (s : State) (p : PressId) (c : Cavity) : Nat :=
  (s.orders.filter fun o => o.press == p && o.cavity == c).length

/-- Staged charges plus queued orders of a press and cavity (R146, R153). -/
def State.supply (s : State) (p : PressId) (c : Cavity) : Nat :=
  ((s.press p).staging.get c).length + s.queuedFor p c

/-- Append one order for a press and cavity under the captured recipe (R145, R146); an order appended to an empty queue
is an event at the weigh station (R134). -/
def appendOrder (p : PressId) (c : Cavity) (s : State) : State :=
  match (s.press p).captured with
  | none => s
  | some ref =>
    let n := freshOrderNumber s.orders s.nextOrder
    startBuild { s with orders := s.orders ++ [⟨n, p, c, ref, 0⟩], nextOrder := (n + 1) % 256 }

/-- The conditions under which automatic ordering may place an order now, less the autoOrder flag (R50, R152). -/
def State.mayOrder (s : State) (p : PressId) (c : Cavity) : Bool :=
  (s.press p).heatMode == .run
    && ((s.press p).captured.bind fun r => s.recipes.find r.id).any (fun r => cavityCode c < r.header.cavities)
    && s.weigh.state != .uncalibrated
    && s.orders.length < 8
    && s.supply p c < 2

/-- Auto-order answers the removal of a charge of a press and cavity (R152). -/
def autoOrder (p : PressId) (c : Cavity) (s : State) : State :=
  if (s.press p).autoOrder && s.mayOrder p c then appendOrder p c s else s

/-- Remove orders from the queue; the attempt of a removed order ends uncounted, in UNLOADING (R141), and another head
order may start an attempt (R134). -/
def removeOrders (drop : Order → Bool) (s : State) : State :=
  let hit := s.weigh.build.any fun b => s.orders.any fun o => drop o && o.number == b.order
  let s1 := { s with orders := s.orders.filter fun o => !drop o }
  startBuild (if hit then dropBuild .unloading s1 else s1)

/-! ## Staging (R151) -/

/-- Scrub a press: remove the charges and orders that do not pass `keep`, cavity 0 first and oldest first, queueing
CHARGE_SCRAPPED for each charge; auto-order then answers the charges removed (R151). -/
def scrub (p : PressId) (keep : RecipeRef → Bool) (s : State) : State :=
  let gone := (s.press p).staging.c0.filter (fun c => !keep c.recipe)
    ++ (s.press p).staging.c1.filter (fun c => !keep c.recipe)
  let s1 := s.updPress p fun pr =>
    { pr with staging := ⟨pr.staging.c0.filter (fun c => keep c.recipe), pr.staging.c1.filter (fun c => keep c.recipe)⟩ }
  let s2 := gone.foldl (fun t c => queueEvent .chargeScrapped (some p) (.charge c.cavity) (some c.number) t) s1
  let s3 := removeOrders (fun o => o.press == p && !keep o.recipe) s2
  gone.foldl (fun t c => autoOrder p c.cavity t) s3

/-! ## Heat mode (R82, R90) -/

/-- The heat mode OFF: SPe absent, every blind hold STOPPED (R82, R90). -/
def Press.heatOff (pr : Press) : Press :=
  { pr with heatMode := .off, zones := pr.zones.map fun z => { z with spe := none, hold := .stopped } }

/-- The heat mode of a press becomes OFF, and with it every drive duty 0 (R82, R90, R93). -/
def heatOff (p : PressId) (s : State) : State := s.updPress p fun pr => pr.driven pr.heatOff

/-- The heat mode becomes STANDBY: SPe the standby temperature (R82); a mode that leaves OFF gives the duties back (R93). -/
def heatStandby (p : PressId) (s : State) : State :=
  s.updPress p fun pr => pr.driven
    { pr with heatMode := .standby, zones := pr.zones.map fun z => { z with spe := pr.config.map (fun c => c.standby) } }

/-- The heat mode becomes RUN: SPe the zone value, or SP when the zone is blind (R82); a mode that leaves OFF gives the
duties back (R93). -/
def heatRun (p : PressId) (s : State) : State :=
  let s1 := s.updPress p fun pr => pr.driven { pr with heatMode := .run }
  s1.updPress p fun pr =>
    { pr with zones := pr.zones.mapIdx fun i z =>
        { z with spe := match z.value with | some v => some v | none => s1.setpoint p i } }

/-! ## Applying a binding (R20) -/

/-- Channel states by the roles of a recipe (R156, R168). -/
def idleChannels (e : EjectSection) : Channels ChannelState :=
  let st : ChannelSettings → ChannelState := fun c => if c.role = .off then .unused else .idle
  ⟨st e.channels.ch0, st e.channels.ch1, st e.channels.ch2, st e.channels.ch3⟩

/-- Make a recipe the press's bound recipe and clear the pending binding; scrub the press; give the heat controller
the new setpoints (R20, R82, R151, R168). The press state is left to the caller. -/
def applyBinding (p : PressId) (ref : RecipeRef) (s : State) : State :=
  let s1 := s.updPress p fun pr => { pr with bound := some ref, pendingBinding := none }
  let s2 := scrub p (fun r => r == ref) s1
  match s2.recipes.find ref.id with
  | none => s2
  | some r =>
    s2.updPress p fun pr =>
      { pr with
        eject := { pr.eject with channels := idleChannels r.eject }
        zones := if pr.heatMode = .run && r.ramp.isNone
          then pr.zones.mapIdx fun i z => { z with spe := r.heat.setpoints[i]? } else pr.zones }

/-- The binding point: a pending binding is applied and then cleared (R19, R46). -/
def bindingPoint (p : PressId) (s : State) : State :=
  match (s.press p).pendingBinding with
  | some ref => applyBinding p ref s
  | none => s

end Sys2Proof.Machine
end

