-- ==== Sys2Proof/Machine/Sequencer.lean ====
section
/-! DEFINITION. The transitions of the press sequencer and, with them, the beginning and end of a cure, the take of a
LOAD and the running of an ejection. A transition that is taken by level at entry (R22) is part of the entry, so the
entries are defined from CURING backwards round the cycle; the cycle stops at CURING, which waits for a tick. -/

namespace Sys2Proof.Machine

/-! ## The cure (R108, R117, R118, R120) -/

/-- The cure summary created at the entry to CURING from CLOSING (R120). -/
def CureSummary.created (now : Time) : CureSummary :=
  ⟨some now, none, none, none, 0, [], false, none, false, false, false⟩

/-- The no-cure form made by a FORCE_OPEN from HELD with prior state CLOSING (R118, R120). -/
def CureSummary.noCureForm : CureSummary :=
  ⟨none, none, none, none, 0, [], false, none, true, false, true⟩

/-- Begin a new cure: doses, residues and cavity items cleared, the closed time recorded, the cure timer and the ticks
started, and a cure summary created in each OPEN record (R108, R109, R117, R120). DESIGN CHOICE (log 69): the items of both cavities
are cleared, those of cavity 1 under a one-cavity recipe too. -/
def beginCure (p : PressId) (s : State) : State :=
  let period := (s.boundRecipe p).map fun r => r.cure.period
  let timer := match s.boundRecipe p with
    | some r => CureTimer.running (r.cure.maxTime * 1000)
    | none => CureTimer.stopped
  updOpen p (fun r => { r with cure := some (.created s.time) })
    (s.updPress p fun pr =>
      { pr with
        cure := ⟨.running, ⟨.cleared, .cleared⟩, timer, some s.time, 0, period⟩
        zones := pr.zones.map fun z => { z with dose := 0, residue := 0 } })

/-- A RUNNING cure ends: the ticks stop and the cure timer becomes STOPPED (R118). -/
def endCure (p : PressId) (s : State) : State :=
  s.updPress p fun pr =>
    if pr.cure.state = .running then
      { pr with cure := { pr.cure with state := .ended, timer := .stopped, nextTick := none } }
    else pr

/-- Every cavity of the bound recipe is cure-complete (R36, R114). -/
def State.allComplete (s : State) (p : PressId) : Bool :=
  (s.cavities p).all fun c => ((s.press p).cure.cavities.get c).complete

/-! ## Closing and loading (R31 to R35) -/

/-- CLOSING to CURING: the timer is discarded and a new cure begins (R35). -/
def enterCuring (p : PressId) (s : State) : State := enter p .curing Timers.none (beginCure p s)

/-- Enter CLOSING with the close timer full; a CLOSED already asserted is taken at once (R22, R34, R42). -/
def enterClosing (p : PressId) (s : State) : State :=
  let s1 := enter p .closing (freshTimer (s.press p) .closeT) s
  if (s1.press p).level .closedSw then enterCuring p s1 else s1

/-- Enter LOADING with the load timer full; a LOADED already asserted is taken at once (R32, R34). -/
def enterLoading (p : PressId) (s : State) : State :=
  let s1 := enter p .loading (freshTimer (s.press p) .loadT) s
  if (s1.press p).level .loadedSw then enterClosing p s1 else s1

/-- The free places of the log (R171). -/
def History.free (h : History) : Nat :=
  min (512 - h.records.length) (match h.counter with | some n => 4294967296 - n | none => 0)

/-- The oldest charge of a cavity's list carries the bound recipe (R150). -/
def State.takeable (s : State) (p : PressId) (c : Cavity) : Bool :=
  match (s.press p).staging.get c with
  | ch :: _ => (s.press p).bound == some ch.recipe
  | [] => false

/-- The checks of R31 in their order: the refusal of the first that fails. -/
def loadRefusal (p : PressId) (s : State) : Option Status :=
  if (s.press p).state ≠ .ready then some .badState
  else if (s.press p).run.state = .running then some .busy
  else if (s.cavities p).isEmpty || !(s.cavities p).all (s.takeable p) then some .noCharge
  else if s.history.free < (s.cavities p).length then some .full
  else none

/-- A newly reserved record (R172). -/
def PartRecord.reserve (serial : Nat) (p : PressId) (c : Cavity) (ref : RecipeRef) (now : Time) : PartRecord where
  serial := serial
  press := p
  cavity := c
  recipe := ref
  reserved := now
  readFlag := false
  charge := none
  cure := none
  demould := none
  faults := []
  more := false
  stopMark := false
  feedShortMark := false
  close := none
  note := none

/-- Reserve the record of one cavity under the next serial, which advances the counter (R171, R172). -/
def reserveRecord (p : PressId) (c : Cavity) (s : State) : State :=
  match s.history.counter, (s.press p).bound with
  | some n, some ref =>
    { s with history :=
        ⟨s.history.records ++ [.reserve n p c ref s.time], if n = 4294967295 then none else some (n + 1)⟩ }
  | _, _ => s

/-- Copy a charge into a part record, with its wait (R150 step 2). -/
def TakenCharge.of (ch : Charge) (now : Time) : TakenCharge :=
  ⟨ch.number, ch.tare, ch.masses, ch.total, ch.attempts, ch.weighed, (now - ch.weighed).toNat⟩

/-- Take the oldest charge of a cavity's list into the cavity's OPEN record (R150 steps 1 and 2). -/
def takeCharge (p : PressId) (c : Cavity) (s : State) : State :=
  match (s.press p).staging.get c with
  | [] => s
  | ch :: rest =>
    updOpen p (fun r => if r.cavity = c then { r with charge := some (.of ch s.time) } else r)
      (s.updPress p fun pr => { pr with staging := pr.staging.upd c fun _ => rest })

/-- The take of a LOAD: records reserved, charges taken, auto-order answering the removals, then LOADING (R32, R150). -/
def takeLoad (p : PressId) (s : State) : State :=
  let cs := s.cavities p
  let s1 := cs.foldl (fun t c => reserveRecord p c t) s
  let s2 := cs.foldl (fun t c => takeCharge p c t) s1
  let s3 := cs.foldl (fun t c => autoOrder p c t) s2
  enterLoading p (s3.updPress p fun pr => { pr with historyFull := false })

/-- Re-examine auto-load (R33): a LOAD of the press's own when the checks pass; HISTORY_FULL once when the free-place
check is the one that fails; the history-full flag cleared when that check passes (log 16). -/
def examineAutoLoad (p : PressId) (s : State) : State :=
  if (s.press p).autoLoad then
    let room := !(s.cavities p).isEmpty && (s.cavities p).length ≤ s.history.free
    let s1 := if room then s.updPress p fun pr => { pr with historyFull := false } else s
    match loadRefusal p s1 with
    | none => takeLoad p s1
    | some .full =>
      if (s1.press p).historyFull then s1
      else queueEvent .historyFull (some p) .none none (s1.updPress p fun pr => { pr with historyFull := true })
    | some _ => s1
  else s

/-! ## Temperature (R29, R30) -/

/-- Enter PREHEAT: the ready run starts at once if every zone is in band, else it waits (R29). -/
def enterPreheat (p : PressId) (s : State) : State :=
  let s1 := enter p .preheat Timers.none s
  s1.updPress p fun pr => { pr with readyRun := if s1.allInBand p then some 0 else none }

/-- Enter READY: on to PREHEAT at once with any zone out of band, else auto-load is re-examined (R30). -/
def enterReady (p : PressId) (s : State) : State :=
  let s1 := enter p .ready Timers.none s
  if s1.allInBand p then examineAutoLoad p s1 else enterPreheat p s1

/-- The test of a zone update at the sequencer: the ready run in PREHEAT, the band in READY (R29, R30, R63). -/
def bandTest (p : PressId) (s : State) : State :=
  match (s.press p).state with
  | .preheat =>
    if s.allInBand p then
      s.updPress p fun pr => { pr with readyRun := some (pr.readyRun.getD 0) }
    else s.updPress p fun pr => { pr with readyRun := none }
  | .ready => if s.allInBand p then s else enterPreheat p s
  | _ => s

/-! ## Clearing (R38) -/

/-- UNLOADED in CLEARING ends the cycle: records closed, clear timer discarded, binding point, READY or PREHEAT (R38). The
ejection items, the cavity states RELEASED and HALTED among them, stay until the next ejection (R157; log 49). -/
def finishClearing (p : PressId) (s : State) : State :=
  let s1 := closeRecords p false s
  let s2 := s1.updPress p fun pr => { pr with timers := Timers.none }
  match (s2.press p).pendingBinding with
  | some _ => enterPreheat p (bindingPoint p s2)
  | none => if s2.allInBand p then enterReady p s2 else enterPreheat p s2

/-- Enter CLEARING with the clear timer full; an UNLOADED already asserted is taken at once (R37, R38). -/
def enterClearing (p : PressId) (s : State) : State :=
  let s1 := enter p .clearing (freshTimer (s.press p) .clearT) s
  if (s1.press p).level .unloadedSw then finishClearing p s1 else s1

/-! ## Ejection (09) -/

/-- The cavity a LEAD on a channel serves (R13, R156): channel 2 leads cavity 1 in a two-cavity recipe. -/
def leadCavity (n : Nat) : Channel → Cavity
  | .ch2 => if n = 2 then .c1 else .c0
  | _ => .c0

/-- The cavity a channel serves: its own for a LEAD, that of the nearest lower-numbered LEAD for a FOLLOW (R156). -/
def channelCavity (e : EjectSection) (n : Nat) (ch : Channel) : Option Cavity :=
  let lead : Channel → Bool := fun k => (e.channels.get k).role == .lead
  match (e.channels.get ch).role with
  | .off => none
  | .lead => some (leadCavity n ch)
  | .follow => (((allChannels.filter fun k => channelCode k < channelCode ch && lead k).getLast?).map (leadCavity n))

/-- The channels that serve a cavity, in channel order (R156). -/
def cavityChannels (e : EjectSection) (n : Nat) (c : Cavity) : List Channel :=
  allChannels.filter fun ch => channelCavity e n ch == some c

/-- The force step of a stroke: start force step plus escalation, capped at 4 (R157). -/
def strokeForce (cs : ChannelSettings) (escalation : Nat) : Nat := min 4 (cs.force + escalation)

/-- A channel starts, or restarts, a stroke at the present force step; the stroke is counted (R158, R161). -/
def Eject.startStroke (es : EjectSection) (c : Cavity) (ch : Channel) (e : Eject) : Eject where
  channels := e.channels.upd ch fun _ =>
    .stroking (es.channels.get ch).stroke (strokeForce (es.channels.get ch) (e.cavities.get c).escalation)
  cavities := e.cavities.upd c fun k => { k with totalStrokes := min 65535 (k.totalStrokes + 1) }

/-- What the start of an attempt does to one channel of the cavity (R160 steps 3 and 4, R161 steps 3 and 4). -/
def Eject.startChannel (es : EjectSection) (c : Cavity) (e : Eject) (ch : Channel) : Eject :=
  let cs := es.channels.get ch
  match cs.role, e.channels.get ch with
  | .off, _ => e
  | .lead, _ => e.startStroke es c ch
  | .follow, .stroking _ _ => e.startStroke es c ch
  | .follow, _ =>
    if cs.delay = 0 then e.startStroke es c ch
    else { e with channels := e.channels.upd ch fun _ => .delaying cs.delay }

/-- Start an attempt of a cavity; the final force step is the highest among its channels, whether or not each comes to stroke
(R160; log 58). -/
def Eject.startAttempt (es : EjectSection) (n : Nat) (c : Cavity) (now : Time) (e : Eject) : Eject :=
  let chs := cavityChannels es n c
  let e1 := { e with cavities := e.cavities.upd c fun k =>
    { k with
      state := .attempting, seqAttempts := k.seqAttempts + 1, totalAttempts := min 255 (k.totalAttempts + 1)
      start := some now, timer := some es.releaseTimeout
      finalForce := some ((chs.map fun ch => strokeForce (es.channels.get ch) k.escalation).foldl max 0) } }
  chs.foldl (Eject.startChannel es c) e1

/-- A cavity whose part is free at the start of a sequence is released at once, with release time 0 (R159, R165); an attempt start
of an earlier sequence stays (log 72). -/
def Eject.releaseAtOnce (c : Cavity) (e : Eject) : Eject :=
  { e with cavities := e.cavities.upd c fun k => { k with state := .released, releaseTime := some 0, timer := none } }

/-- PART_FREE releases an ATTEMPTING cavity: its delaying followers are cancelled, its strokes go on (R160). DEDUCED (log 72): the
attempt start stays as it was. -/
def Eject.release (es : EjectSection) (n : Nat) (c : Cavity) (now : Time) (e : Eject) : Eject where
  cavities := e.cavities.upd c fun k =>
    { k with state := .released, timer := none, releaseTime := k.start.map fun t => (now - t).toNat }
  channels := (cavityChannels es n c).foldl (fun chs ch => chs.upd ch fun st =>
    match st with
    | .delaying _ => .idle
    | st => st) e.channels

def ChannelState.isStroking : ChannelState → Bool
  | .stroking _ _ => true
  | _ => false

/-- The end test: in EJECTING, every cavity RELEASED and no channel STROKING sends the press to CLEARING (R163). -/
def endTest (p : PressId) (s : State) : State :=
  let e := (s.press p).eject
  if (s.press p).state = .ejecting
      && (s.cavities p).all (fun c => (e.cavities.get c).state == .released)
      && !allChannels.any (fun ch => (e.channels.get ch).isStroking)
  then enterClearing p s else s

def State.updEject (s : State) (p : PressId) (f : Eject → Eject) : State :=
  s.updPress p fun pr => { pr with eject := f pr.eject }

/-- Start the given cavities: released at once when PART_FREE is asserted, else a first attempt (R159, R165). -/
def startCavities (p : PressId) (r : Recipe) (cs : List Cavity) (s : State) : State :=
  cs.foldl (fun t c =>
    if (t.press p).level (partFree c) then t.updEject p (Eject.releaseAtOnce c)
    else t.updEject p (Eject.startAttempt r.eject r.header.cavities c t.time)) s

/-- Enter EJECTING from OPENING: a new ejection begins, the demould summaries are created, the end test is made (R37, R159, R166).
The items of both cavities are cleared, those of cavity 1 under a one-cavity recipe too (log 66). -/
def enterEjecting (p : PressId) (s : State) : State :=
  let s1 := enter p .ejecting Timers.none s
  match s1.boundRecipe p with
  | none => s1
  | some r =>
    let s2 := s1.updEject p fun _ => ⟨idleChannels r.eject, ⟨.cleared, .cleared⟩⟩
    let s3 := updOpen p (fun x => { x with demould := some ⟨0, none, 0, none, false⟩ }) s2
    endTest p (syncEject p (startCavities p r (cavitiesOf r.header.cavities) s3))

/-- A RESUME into EJECTING starts a fresh sequence for the HALTED cavities; one released at once keeps its sequence attempts
(R165; log 59). -/
def resumeEjecting (p : PressId) (s : State) : State :=
  let s1 := enter p .ejecting Timers.none s
  match s1.boundRecipe p with
  | none => s1
  | some r =>
    let halted := (cavitiesOf r.header.cavities).filter fun c => ((s1.press p).eject.cavities.get c).state == .halted
    let s2 := halted.foldl (fun t c => t.updEject p fun e =>
      { e with cavities := e.cavities.upd c fun k =>
          { k with seqAttempts := if (t.press p).level (partFree c) then k.seqAttempts else 0 } }) s1
    endTest p (syncEject p (startCavities p r halted s2))

/-! ## Opening and aborting (R36, R37, R45) -/

/-- Enter OPENING with the open timer full: OPEN_CMD, if not held off, finishes the cure summaries; an OPEN already
asserted is taken at once (R36, R37, R121; log 26). -/
def enterOpening (p : PressId) (s : State) : State :=
  let s1 := noteOpenCmd p (enter p .opening (freshTimer (s.press p) .openT) s)
  if (s1.press p).level .openSw then enterEjecting p s1 else s1

/-- ABORTING to IDLE: heat mode STANDBY, the binding point, then IDLE (R45, R46; log 25). -/
def abortingToIdle (p : PressId) (s : State) : State :=
  enter p .idle Timers.none (bindingPoint p (heatStandby p s))

/-- ABORT from within a cycle: the five effects of R45 in their order, then ABORTING, and on to IDLE when OPEN is
already asserted. DESIGN CHOICE (log 70): the PART_CLOSED events stand before the PRESS_STATE of ABORTING. -/
def enterAborting (p : PressId) (s : State) : State :=
  let s1 := closeRecords p true s
  let s2 := s1.updEject p Eject.halt
  let s3 := endCure p s2
  let s4 := enter p .aborting (freshTimer (s.press p) .openT) s3
  if (s4.press p).level .openSw then abortingToIdle p s4 else s4

end Sys2Proof.Machine
end

