-- ==== Sys2Proof/Machine/Requests.lean ====
section
/-! DEFINITION. How the link port takes a request and answers it (R2, R197, R198). -/

namespace Sys2Proof.Machine

/-- The outcome type of every meaning. -/
abbrev Result := Host.Outcome State Fault Refusal

/-- What the owning block answers: a refusal code with its detail byte, or the reply fields after OK and the state the
request leaves (R2, R198). -/
inductive Answer where
  | refuse (code : Status) (detail : Nat)
  | ok (fields : Payload) (after : State)
  deriving DecidableEq, Repr

/-- The port has a frame in its whole only from LISTEN or RECEIVING; in WORKING and REPLYING every byte is ignored (R197). -/
def State.listening (s : State) : Bool := s.link.port == .listen || s.link.port == .receiving

/-- The port enters REPLYING with the reply of a request of type `type` (R198). -/
def sendReply (type : Byte) (payload : Payload) (s : State) : State :=
  { s with link := { s.link with port := .replying, received := [], reply := some ⟨type, payload⟩ } }

/-- A request frame: ignored while the port is WORKING or REPLYING; otherwise taken by the owning block and answered.
A refused request changes nothing but the port (R2, R197, R198). -/
def answer (type : Byte) (s : State) (a : Answer) : Result :=
  if s.listening then
    match a with
    | .refuse c d => .next (sendReply type [c.code, BitVec.ofNat 8 d] s)
    | .ok fields t => .next (sendReply type (0 :: fields) t)
  else .next s

/-- A request whose payload must be empty (R198 step 2). -/
def noPayload (payload : Payload) (a : Answer) : Answer :=
  match payload with
  | [] => a
  | _ => .refuse .badLength 0

/-- A request that carries a press number alone; one outside 1 to 4 is refused with BAD_ARG. -/
def onePress (payload : Payload) (f : PressId → Answer) : Answer :=
  match payload with
  | [b] => match pressOf b.toNat with
    | some p => f p
    | none => .refuse .badArg 1
  | _ => .refuse .badLength 0

/-- A status request of a press, refused with BAD_STATE in UNCONFIGURED; it changes nothing. -/
def pressReport (payload : Payload) (s : State) (f : PressId → Payload) : Answer :=
  onePress payload fun p => if (s.press p).configured then .ok (f p) s else .refuse .badState 0

end Sys2Proof.Machine
end

