-- ==== Sys2Proof/Machine/Sensing.lean ====
section
/-! DEFINITION. The sensor scan unit: the temperature stream, judging readings, zone updates, mismatch, restoring and
proving sensors, and the map and status requests (03). -/

namespace Sys2Proof.Machine

/-! ## Sensors and zone updates (R61 to R67, R113) -/

/-- A blind hold ends when the zone is not, or no longer, blind by sensor loss (R92). -/
def Zone.settleHold (z : Zone) : Zone :=
  if z.isBlind && !z.provingBlind then z else { z with hold := .stopped }

/-- Change one sensor; the zone's source follows at once (R63), and with it the blind hold (R92). -/
def setSensor (p : PressId) (k : SensorPos) (f : Sensor → Sensor) (s : State) : State :=
  s.updPress p fun pr => pr.updZone k.zone fun z => (z.updSensor k.position f).settleHold

/-- The sensor of a position of a press's zone. -/
def Press.sensorAt (pr : Press) (k : SensorPos) : Sensor :=
  match pr.zones[k.zone]? with
  | some z => z.sensor k.position
  | none => Sensor.absent

def Press.fittedAt (pr : Press) (k : SensorPos) : Bool :=
  match pr.zones[k.zone]? with
  | some z => z.fitted k.position
  | none => false

def Press.sourceAt (pr : Press) (i : Nat) : Source :=
  match pr.zones[i]? with
  | some z => z.source
  | none => .none

/-- While the cure is RUNNING, a footprint zone whose source is not PRIMARY joins the degraded list of each cavity it
lies under (R113). -/
def degradeZone (p : PressId) (i : Nat) (s : State) : State :=
  if (s.press p).cure.state = .running ∧ (s.press p).sourceAt i ≠ .primary then
    syncCure p ((s.cavities p).foldl (fun t c =>
      if (s.footprint p c).contains i then
        t.updPress p fun pr => { pr with cure := { pr.cure with cavities := pr.cure.cavities.upd c fun k =>
          { k with degraded := if k.degraded.contains i then k.degraded else k.degraded ++ [i] } } }
      else t) s)
  else s

/-- A zone update: the event at the cure integrator and at the press sequencer (R63, R113). -/
def zoneUpdate (p : PressId) (i : Nat) (s : State) : State := bandTest p (degradeZone p i s)

/-- The comparison of a zone's two sensors at a zone update that follows a scan; the flag says that the condition became
present (R67). -/
def Zone.compare (band : Int) (z : Zone) : Zone × Bool :=
  let bothOk := z.primary.state == .ok && z.spare.state == .ok
  let differ := match z.primary.lastGood, z.spare.lastGood with
    | some a, some b => decide (band < a - b ∨ band < b - a)
    | _, _ => false
  if z.mismatch then
    if bothOk && !differ then
      if 10 ≤ z.agreeRun + 1 then ({ z with mismatch := false, mismatchRun := 0, agreeRun := 0 }, false)
      else ({ z with agreeRun := z.agreeRun + 1 }, false)
    else ({ z with agreeRun := 0 }, false)
  else
    if bothOk && differ then
      if 10 ≤ z.mismatchRun + 1 then ({ z with mismatch := true, mismatchRun := 0, agreeRun := 0 }, true)
      else ({ z with mismatchRun := z.mismatchRun + 1 }, false)
    else ({ z with mismatchRun := 0 }, false)

def Press.mismatchBand (pr : Press) : Int :=
  match pr.config with
  | some c => c.mismatchBand
  | none => 0

/-- The zone update that follows a scan: the mismatch comparison, then the update, so that SENSOR_MISMATCH is queued before a
PRESS_STATE of the band test (R63, R67; log 56). -/
def scanZoneUpdate (p : PressId) (i : Nat) (s : State) : State :=
  match (s.press p).zones[i]? with
  | none => s
  | some z =>
    let r := z.compare (s.press p).mismatchBand
    let s1 := s.updPress p fun pr => pr.updZone i fun _ => r.1
    zoneUpdate p i (if r.2 then raiseFault (.press p) .sensorMismatch (.zone i) s1 else s1)

/-- A reading of the stream as it is judged: a corrupted item is ERR (R57). -/
def judgedReading : StreamReading → Reading
  | .value t => .value t
  | .openCode => .openCode
  | .errCode => .errCode
  | .corrupted => .errCode

/-- The value of a good reading of a sensor; a code, a value out of −200 to 3500 or one more than 300 from the last
good reading is bad (R61). -/
def goodValue (x : Sensor) (r : Reading) : Option Int :=
  match r with
  | .value t =>
    if t < -200 ∨ 3500 < t then none
    else match x.lastGood with
      | some g => if 300 < t - g ∨ 300 < g - t then none else some t
      | none => some t
  | _ => none

/-- Judge a reading of an OK or DOUBTFUL sensor (R62), and raise the fault of a sensor that becomes FAILED (R64). -/
def judgeReading (p : PressId) (k : SensorPos) (r : Reading) (s : State) : State :=
  let x := (s.press p).sensorAt k
  match goodValue x r with
  | some t => setSensor p k (fun _ => ⟨.ok, some t, 0⟩) s
  | none =>
    if x.bad + 1 < 3 then setSensor p k (fun y => { y with state := .doubtful, bad := y.bad + 1 }) s
    else
      let s1 := setSensor p k (fun y => { y with state := .failed, bad := 3 }) s
      raiseFault (.press p)
        (if k.position = .primary ∧ (s1.press p).sourceAt k.zone = .spare then .zoneSpared else .sensorFailed)
        (.zone k.zone) s1

/-! ## Proving runs (R71 to R78) -/

def State.updRun (s : State) (p : PressId) (f : ProvingRun → ProvingRun) : State :=
  s.updPress p fun pr => { pr with run := f pr.run }

/-- Zone updates for the zones whose source changed between two states, in zone order (R63). DESIGN CHOICE (log 67): the band is
tested at each of them, so a zone that keeps a usable sensor but passes at a PROVE_START to a spare whose value is out of band
breaks the ready run or takes READY to PREHEAT (R30), where R73 says that such a selection disturbs neither. -/
def updateChanged (p : PressId) (before : State) (s : State) : State :=
  ((List.range (s.press p).zoneCount).filter fun i => (before.press p).sourceAt i != (s.press p).sourceAt i).foldl
    (fun t i => zoneUpdate p i t) s

/-- The selection of a press's run. -/
def ProvingRun.selection (r : ProvingRun) : List SensorPos := (r.params.map fun x => x.selection).getD []

/-- Close a run: the given sensors FAILED, every other selected sensor DOUBTFUL, sources evaluated again, the run state
set, the reference command withdrawn, and the readings at the selected positions discarded through the next scan, and
through the rest of the open one (R77 steps 1 to 3 and 6, R78 steps 1, 2 and 5). -/
def closeRun (p : PressId) (st : RunState) (failed : List SensorPos) (s : State) : State :=
  let sel := (s.press p).run.selection
  let s1 := sel.foldl (fun t k => setSensor p k (fun _ => if failed.contains k then ⟨.failed, none, 3⟩ else ⟨.doubtful, none, 0⟩) t) s
  let scans := if (s.press p).streamPos.isSome then 2 else 1
  updateChanged p s (s1.updRun p fun r =>
    { r with state := st, inScan := false, command := none
             discard := r.discard.filter (fun d => !sel.contains d.1) ++ sel.map fun k => (k, scans) })

/-- The end of a run judged PASSED, FAILED or STOPPED (R77). -/
def endRun (p : PressId) (st : RunState) (s : State) : State :=
  let failing := (s.press p).run.failing
  let s1 := closeRun p st failing s
  let s2 := if failing.isEmpty then s1 else raiseFault (.press p) .proveFail .none s1
  examineAutoLoad p (queueEvent .proveDone (some p) (.run st) none s2)

/-- The end of a run ABORTED by an ABORT of the press (R78); the end re-examines auto-load (R33, R44). -/
def abortRun (p : PressId) (s : State) : State :=
  if (s.press p).run.state = .running then
    examineAutoLoad p (queueEvent .proveDone (some p) (.run .aborted) none (closeRun p .aborted [] s))
  else s

/-- Whether a reading of a PROVING sensor miscompares with the level of the scan in hand (R75). -/
def RunParams.miscompares (x : RunParams) (index : Nat) : Reading → Bool
  | .value t => x.tolerance < t - x.pattern.getD index 0 || x.tolerance < x.pattern.getD index 0 - t
  | _ => true

/-- Compare a reading of a PROVING sensor with the run in progress (R75); the first miscompare of a run with stopOnError ends it
(R76). The loop number is one more than the loops completed, so it stays at 65536 once these have stopped at 65535 (log 51). -/
def compareReading (p : PressId) (k : SensorPos) (r : Reading) (s : State) : State :=
  let run := (s.press p).run
  match run.params with
  | none => s
  | some x =>
    if run.state = .running ∧ x.miscompares run.index r = true then
      let failure : ProveFailure := ⟨k, run.index, run.loopsDone + 1, r⟩
      let s1 := s.updRun p fun y =>
        { y with first := some (y.first.getD failure), last := some failure
                 failing := x.selection.filter fun j => j == k || y.failing.contains j }
      if x.stopOnError then endRun p .failed s1 else s1
    else s

/-- Handle a reading at a position by the state of its sensor (R58, R62, R74, R77); the discard after a run is per position and
takes in the ERR readings that are given (log 20). An overdue ERR of a PROVING sensor
is compared whether or not the open scan belongs to the run (R74). -/
def handleReading (overdue : Bool) (p : PressId) (k : SensorPos) (r : Reading) (s : State) : State :=
  if !(s.press p).fittedAt k || (s.press p).run.discard.any (fun d => d.1 == k) then s
  else match ((s.press p).sensorAt k).state with
    | .ok | .doubtful => judgeReading p k r s
    | .proving => if overdue || (s.press p).run.inScan then compareReading p k r s else s
    | .failed | .absent => s

/-- The sensor at a stream position: primary at 2z, spare at 2z + 1 (R53). -/
def posAt (n : Nat) : SensorPos := ⟨n / 2, if n % 2 = 0 then .primary else .spare⟩

/-- Handle the reading of a stream position; after the second position of a zone its zone update follows (R63). -/
def stepPosition (overdue : Bool) (p : PressId) (n : Nat) (r : Reading) (s : State) : State :=
  let s1 := handleReading overdue p (posAt n) r s
  if n % 2 = 1 then scanZoneUpdate p (n / 2) s1 else s1

/-- One scan has closed: discards that end with it are dropped (R77 step 6). -/
def ProvingRun.scanClosed (r : ProvingRun) : ProvingRun :=
  { r with discard := (r.discard.map fun d => (d.1, d.2 - 1)).filter fun d => 0 < d.2 }

/-- A scan closes: the stream position becomes CLOSED, and a scan of the run advances it, or ends it at its loop count
(R58, R59, R74, R76). -/
def closeScan (p : PressId) (s : State) : State :=
  let s1 := s.updPress p fun pr => { pr with streamPos := none, run := pr.run.scanClosed }
  let run := (s1.press p).run
  match run.params with
  | none => s1
  | some x =>
    if run.state = .running ∧ run.inScan then
      let wrap := run.index + 1 = 4
      let loops := if wrap then min 65535 (run.loopsDone + 1) else run.loopsDone
      let s2 := s1.updRun p fun y => { y with index := if wrap then 0 else y.index + 1, loopsDone := loops, inScan := false }
      if wrap && !x.continuous && loops == x.loops then
        endRun p (if run.failing.isEmpty then .passed else .failed) s2
      else s2
    else s1

/-- The reference command for a pattern index of the run (R74). -/
def RunParams.command (x : RunParams) (index : Nat) : RefCommand := ⟨x.selection, x.pattern.getD index 0⟩

/-- Command a reference level: it goes out on the drive stream and is in force (R74, R94). -/
def commandLevel (p : PressId) (c : RefCommand) (s : State) : State :=
  s.updPress p fun pr => { pr with run := { pr.run with command := some c }, drive := pr.drive ++ [.reference c] }

/-- While a run is in progress, mark whether the scan that is now open belongs to it and command a level (R74). -/
def runScan (p : PressId) (inScan : Bool) (level : Nat → Nat) (s : State) : State :=
  match (s.press p).run.params with
  | some x =>
    if (s.press p).run.state = .running then
      commandLevel p (x.command (level (s.press p).run.index)) (s.updRun p fun r => { r with inScan := inScan })
    else s
  | none => s

/-! ## The temperature stream (R57 to R60) -/

/-- The number of stream positions of a press (R53). -/
def Press.positions (pr : Press) : Nat := 2 * pr.zoneCount

/-- The stream positions from `a` up to, not including, `b`. -/
def positionsFrom (a b : Nat) : List Nat := (List.range (b - a)).map (· + a)

def scanMarker (p : PressId) (s : State) : State :=
  if !(s.press p).configured then s else
  let s1 := match (s.press p).streamPos with
    | none => s
    | some k => closeScan p ((positionsFrom k (s.press p).positions).foldl (fun t n => stepPosition false p n .errCode t) s)
  runScan p true (fun i => (i + 1) % 4) (s1.updPress p fun pr => { pr with streamPos := some 0, overdue := some 250 })

/-- SCAN_MARKER (R58, R59, R74). -/
def execScanMarker (p : PressId) (s : State) : Result := .next (scanMarker p s)

def temperatureReading (p : PressId) (r : StreamReading) (s : State) : State :=
  if !(s.press p).configured then s else
  match (s.press p).streamPos with
  | none => s
  | some k =>
    if (s.press p).positions ≤ k then s else
    let s1 := (stepPosition false p k (judgedReading r) s).updPress p fun pr => { pr with streamPos := some (k + 1) }
    if k + 1 = (s.press p).positions then closeScan p s1 else s1

/-- TEMPERATURE_READING (R57, R58, R62). -/
def execTemperatureReading (p : PressId) (r : StreamReading) (s : State) : Result := .next (temperatureReading p r s)

/-- The overdue timer has run out (R60). -/
def State.overdueDue (s : State) (p : PressId) : Bool := (s.press p).configured && (s.press p).overdue == some 0

def overdueExpiry (p : PressId) (s : State) : State :=
  let s1 := (positionsFrom 0 (s.press p).positions).foldl (fun t n => stepPosition true p n .errCode t) s
  runScan p false id (s1.updPress p fun pr =>
    { pr with streamPos := none, overdue := some 100, run := if pr.streamPos.isSome then pr.run.scanClosed else pr.run })

/-- OVERDUE_EXPIRY (R60, R74). -/
def execOverdueExpiry (p : PressId) (s : State) : Result := .next (if s.overdueDue p then overdueExpiry p s else s)

/-! ## Restoring a sensor (R66) -/

def restoreSensor (payload : Payload) (s : State) : Answer :=
  match payload with
  | [b, z, k] =>
    match pressOf b.toNat with
    | none => .refuse .badArg 1
    | some p =>
      if !(s.press p).configured then .refuse .badState 0
      else if (s.press p).zoneCount ≤ z.toNat then .refuse .badArg 2
      else match positionOf k.toNat with
        | none => .refuse .badArg 3
        | some pos =>
          let q : SensorPos := ⟨z.toNat, pos⟩
          if !(s.press p).fittedAt q then .refuse .badArg 3
          else match ((s.press p).sensorAt q).state with
            | .proving => .refuse .busy 0
            | .failed => .ok [] (updateChanged p s (setSensor p q (fun _ => ⟨.doubtful, none, 0⟩) s))
            | _ => .refuse .badState 0
  | _ => .refuse .badLength 0

/-- RESTORE_SENSOR (R66). -/
def execRestoreSensor (payload : Payload) (s : State) : Result := answer 0x31 s (restoreSensor payload s)

/-! ## Proving requests (R72, R73, R76, R79) -/

/-- The pairs of a PROVE_START payload, as raw zone and position numbers. -/
def pairsOf : Payload → List (Nat × Nat)
  | z :: k :: rest => (z.toNat, k.toNat) :: pairsOf rest
  | _ => []

/-- The checks of the pairs: a zone of the grid, then a fitted position not named before (R72 step 4). -/
def pairChecks (pr : Press) : List (Nat × Nat) → List (Nat × Nat) → List Bool
  | _, [] => []
  | seen, (z, k) :: rest =>
    [decide (z < pr.zoneCount), ((positionOf k).any fun pos => pr.fittedAt ⟨z, pos⟩) && !seen.contains (z, k)]
      ++ pairChecks pr ((z, k) :: seen) rest

/-- The field checks of PROVE_START after the press number (R72 step 4). -/
def proveChecks (pr : Press) (pairs : List (Nat × Nat)) (f : List Nat) : List Bool :=
  pairChecks pr [] pairs ++ (f.take 4).map (inRange 0 3000) ++ [inRange 1 100 (f.getD 4 0),
    flagBit (f.getD 6 0) 0 || inRange 1 4095 (f.getD 5 0)]

/-- A selection in zone order, primary before spare (R73). -/
def inZoneOrder (pr : Press) (pairs : List (Nat × Nat)) : List SensorPos :=
  ((List.range pr.positions).map posAt).filter fun k => pairs.contains (k.zone, k.position.code)

/-- An accepted PROVE_START begins the run and commands its level 0 (R73, R74). -/
def beginRun (p : PressId) (x : RunParams) (s : State) : State :=
  let s1 := x.selection.foldl (fun t k => (setSensor p k (fun _ => ⟨.proving, none, 0⟩) t).updPress p fun pr =>
    pr.updZone k.zone fun z => { z with mismatchRun := 0, agreeRun := 0 }) s
  updateChanged p s (commandLevel p (x.command 0) (s1.updRun p fun r =>
    { state := .running, params := some x, index := 0, loopsDone := 0, first := none, last := none, failing := []
      inScan := false, command := none, discard := r.discard.filter fun d => !x.selection.contains d.1 }))

def proveStart (payload : Payload) (s : State) : Answer :=
  if payload.length < 13 ∨ payload.length % 2 = 0 then .refuse .badLength 0 else
  let n := (payload.length - 13) / 2
  match pressOf (beNat (payload.take 1)) with
  | none => .refuse .badArg 1
  | some p =>
    if (s.press p).run.state = .running then .refuse .busy 0
    else if (s.press p).state ≠ .idle ∧ (s.press p).state ≠ .preheat ∧ (s.press p).state ≠ .ready then
      .refuse .badState 0
    else
      let pairs := pairsOf ((payload.drop 1).take (2 * n))
      let f := readFields [2, 2, 2, 2, 1, 2, 1] (payload.drop (1 + 2 * n))
      if n = 0 then .refuse .badArg 2 else
      match firstFailing (proveChecks (s.press p) pairs f) with
      | some k => .refuse .badArg (k + 1)
      | none =>
        .ok [] (beginRun p ⟨inZoneOrder (s.press p) pairs, (f.take 4).map Int.ofNat, f.getD 4 0, f.getD 5 0,
          flagBit (f.getD 6 0) 0, flagBit (f.getD 6 0) 1⟩ s)

/-- PROVE_START (R72, R73). -/
def execProveStart (payload : Payload) (s : State) : Result := answer 0x33 s (proveStart payload s)

def proveStop (payload : Payload) (s : State) : Answer :=
  onePress payload fun p =>
    if (s.press p).run.state = .running then .ok [] (endRun p .stopped s) else .refuse .badState 0

/-- PROVE_STOP (R76, R77). -/
def execProveStop (payload : Payload) (s : State) : Result := answer 0x34 s (proveStop payload s)

def SensorPos.bytes (k : SensorPos) : Payload := u8 k.zone ++ u8 k.position.code

/-- A reading in a failure, two bytes, signed (R205); the codes OPEN and ERR are the two values above the absent one
(log 50). -/
def Reading.bytes : Reading → Payload
  | .value t => i16 t
  | .openCode => i16 (-32767)
  | .errCode => i16 (-32766)

/-- A failure of the run record, or absent values in its place (R71, R205). -/
def failureBytes : Option ProveFailure → Payload
  | some x => x.pos.bytes ++ u8 x.index ++ u32 x.loop ++ x.reading.bytes
  | none => [0xFF, 0xFF] ++ optU8 none ++ optU32 none ++ optI16 none

/-- The run record of a press (R71, R79); before the first run its parameters are absent and its flags 0 (log 21). -/
def proveReply (pr : Press) : Payload :=
  let params := match pr.run.params with
    | some x => (List.range 4).flatMap (fun i => u16 (x.pattern.getD i 0).toNat) ++ u8 x.tolerance.toNat ++ u16 x.loops
        ++ flags [x.continuous, x.stopOnError]
    | none => (List.replicate 4 (optU16 none)).flatten ++ optU8 none ++ optU16 none ++ flags []
  u8 pr.run.state.code ++ params ++ counted SensorPos.bytes pr.run.selection ++ u8 pr.run.index ++ u16 pr.run.loopsDone
    ++ failureBytes pr.run.first ++ failureBytes pr.run.last ++ counted SensorPos.bytes pr.run.failing

/-- PROVE_STATUS (R79). -/
def execProveStatus (payload : Payload) (s : State) : Result :=
  answer 0x35 s (pressReport payload s fun p => proveReply (s.press p))

/-! ## Maps and status (R55, R56, R68) -/

/-- The zones of a window in one of the four traversal orders (R55). -/
def traversal (w : Window) (rows cols : Nat) (columnMajor decreasing : Bool) : List Nat :=
  let zs := if columnMajor then w.zonesByColumn rows cols else w.zones rows cols
  if decreasing then zs.reverse else zs

/-- The entry of a zone in a map, by the content selector: VALUE, SETPOINT, DUTY, DOSE, SOURCE (R56). -/
def mapEntry (pr : Press) (content : Nat) (z : Zone) : Payload :=
  match content with
  | 0 => optI16 z.value
  | 1 => optI16 (if pr.heatMode = .off then none else z.spe)
  | 2 => u16 (pr.driveDuty z)
  | 3 => u32 z.dose
  | _ => u8 z.source.code

def getMap (payload : Payload) (s : State) : Answer :=
  match payload.map (fun b => b.toNat) with
  | [b, pl, rs, re, cs, ce, order, dir, content] =>
    match pressOf b with
    | none => .refuse .badArg 1
    | some p =>
      match (s.press p).config with
      | none => .refuse .badState 0
      | some cfg =>
        let w : Window := ⟨(platenOf pl).getD .top, rs, re, cs, ce⟩
        match firstFailing ([(platenOf pl).isSome, rs < cfg.rows, rs ≤ re && re < cfg.rows, cs < cfg.cols,
            cs ≤ ce && ce < cfg.cols, order < 2, dir < 2, content < 5]) with
        | some k => .refuse .badArg (k + 1)
        | none =>
          let zs := traversal w cfg.rows cfg.cols (order == 1) (dir == 1)
          .ok (u8 zs.length ++ zs.flatMap fun i =>
            match (s.press p).zones[i]? with
            | some z => mapEntry (s.press p) content z
            | none => []) s
  | _ => .refuse .badLength 0

/-- GET_MAP (R54, R55, R56). -/
def execGetMap (payload : Payload) (s : State) : Result := answer 0x30 s (getMap payload s)

def Sensor.bytes (x : Sensor) : Payload := u8 x.state.code ++ optI16 x.lastGood ++ u8 x.bad

/-- One zone of SENSOR_STATUS: source, flags (blind, proving-blind, value, mismatch), the two sensors (R68; log 14). -/
def sensorEntry (z : Zone) : Payload :=
  u8 z.source.code ++ flags [z.isBlind, z.provingBlind, z.value.isSome, z.mismatch] ++ z.primary.bytes ++ z.spare.bytes

/-- SENSOR_STATUS (R68). -/
def execSensorStatus (payload : Payload) (s : State) : Result :=
  answer 0x32 s (pressReport payload s fun p => counted sensorEntry (s.press p).zones)

end Sys2Proof.Machine
end

