-- ==== Sys2Proof/Machine/PressCycle.lean ====
section
/-! DEFINITION. The requests and timers of the press sequencer: configuring, heat modes, loading, resuming, forcing open,
aborting, the inhibit gates' HOST sources, automatic operation, status, the ready dwell and the timeout timers (02). -/

namespace Sys2Proof.Machine

/-! ## Configuring a press (R24, R25, R69, R95, R98, R123, R168) -/

/-- A zone entry of PRESS_CONFIG: rated power, primary fitted, spare fitted (R24). -/
structure ZoneEntry where
  rated : Nat
  primary : Bool
  spare : Bool
  deriving DecidableEq, Repr

/-- The widths of the fields of a PRESS_CONFIG for `n` zones (R199, R205). -/
def configWidths (n : Nat) : List Nat :=
  [1, 1, 1] ++ (List.replicate n [2, 1]).flatten ++ [2, 2, 1, 2, 2, 2, 2, 1, 1, 2]

/-- The zone entries of a payload's fields after the grid (R24). -/
def parseEntries : Nat → List Nat → List ZoneEntry
  | 0, _ => []
  | n + 1, f => ⟨f.getD 0 0, flagBit (f.getD 1 0) 0, flagBit (f.getD 1 0) 1⟩ :: parseEntries n (f.drop 2)

/-- The configuration of a payload's fields: the grid, and the fields after the zone entries (R24). -/
def parseConfig (rows cols : Nat) (g : List Nat) : PressConfig :=
  ⟨rows, cols, g.getD 0 0, g.getD 1 0, g.getD 2 0, g.getD 3 0, g.getD 4 0, g.getD 5 0, g.getD 6 0, g.getD 7 0, g.getD 8 0,
    g.getD 9 0⟩

/-- The range checks of R24's table after the press number, in its order. -/
def configChecks (rows cols : Nat) (entries : List ZoneEntry) (g : List Nat) : List Bool :=
  [inRange 1 3 rows, inRange 1 4 cols] ++ entries.flatMap (fun e => [inRange 0 2000 e.rated, e.primary || e.spare])
    ++ [inRange 0 1023 (g.getD 0 0), inRange 0 1023 (g.getD 1 0), inRange 10 200 (g.getD 2 0), inRange 0 600 (g.getD 3 0),
      inRange 50 500 (g.getD 4 0), inRange 0 2000 (g.getD 5 0), inRange 30 600 (g.getD 6 0), inRange 1 60 (g.getD 7 0),
      inRange 1 60 (g.getD 8 0), inRange 5 600 (g.getD 9 0)]

/-- A sensor that has just been fitted, or is known absent (R69). -/
def Sensor.fresh (fitted : Bool) : Sensor := if fitted then ⟨.doubtful, none, 0⟩ else Sensor.absent

/-- A zone of a new grid (R69, R95, R98, R123). -/
def Zone.fresh (spe : Option Int) (e : ZoneEntry) : Zone where
  rated := e.rated
  primaryFitted := e.primary
  spareFitted := e.spare
  primary := .fresh e.primary
  spare := .fresh e.spare
  mismatchRun := 0
  agreeRun := 0
  mismatch := false
  spe := spe
  iacc := 0
  demand := 0
  hold := .stopped
  hot := false
  feedLimited := false
  request := 0
  grant := 0
  duty := 0
  dose := 0
  residue := 0

/-- A sensor under its old and new fitted flags on a grid that is kept (R69). -/
def Sensor.refit (old new : Bool) (x : Sensor) : Sensor := if old = new then x else Sensor.fresh new

/-- A zone of a grid that is kept (R69, R95). -/
def Zone.reconfigure (spe : Option Int → Option Int) (e : ZoneEntry) (z : Zone) : Zone :=
  { z with
    rated := e.rated, primaryFitted := e.primary, spareFitted := e.spare
    primary := z.primary.refit z.primaryFitted e.primary, spare := z.spare.refit z.spareFitted e.spare
    mismatchRun := 0, agreeRun := 0, mismatch := false, spe := spe z.spe }

/-- Take a configuration that keeps the grid (R25, R69, R95, R123). -/
def keepGrid (cfg old : PressConfig) (entries : List ZoneEntry) (pr : Press) : Press :=
  let spe : Option Int → Option Int := fun x =>
    if pr.heatMode = .standby ∧ old.standby ≠ cfg.standby then some cfg.standby else x
  { pr with
    config := some cfg
    zones := pr.zones.mapIdx fun i z => match entries[i]? with
      | some e => z.reconfigure spe e
      | none => z
    cure := { pr.cure with timer := .stopped } }

/-- Take a configuration with a new grid (R25, R69, R95, R98, R123, R168); the ZONE_BLIND entries of the old grid's zones
leave the active faults (R187). A drive duty other than 0 goes to 0 with its zone, by one transfer to every zone position
(R94, log 31), and the cavity items of the cure are cleared with its state (log 47). The press state, its ticks and its
bindings are left to the caller. -/
def newGrid (cfg : PressConfig) (entries : List ZoneEntry) (pr : Press) : Press :=
  { pr with
    config := some cfg
    zones := entries.map (Zone.fresh (if pr.heatMode = .standby then some cfg.standby else none))
    streamPos := none
    overdue := some 250
    run := { pr.run with discard := [] }
    cure := .initial
    eject := .initial
    faults := { pr.faults with active := pr.faults.active.filter fun a => a.code != .zoneBlind }
    drive := if pr.driveDuties.any (fun e => e.2 != 0) then pr.drive ++ [.allOff] else pr.drive }

/-- Clear both bindings of a press and remove all its charges and orders, as in a binding scrub (R25). -/
def unbind (p : PressId) (s : State) : State :=
  if (s.press p).bound.isSome || (s.press p).pendingBinding.isSome then
    scrub p (fun _ => false) (s.updPress p fun pr => { pr with bound := none, pendingBinding := none })
  else s

/-- An accepted PRESS_CONFIG (R25). -/
def configure (p : PressId) (cfg : PressConfig) (entries : List ZoneEntry) (s : State) : State :=
  match (s.press p).config with
  | some old =>
    if old.rows = cfg.rows ∧ old.cols = cfg.cols then s.updPress p (keepGrid cfg old entries)
    else unbind p (s.updPress p (newGrid cfg entries))
  | none =>
    enter p .idle Timers.none (heatOff p (s.updPress p fun pr => { newGrid cfg entries pr with nextTick := some 500 }))

def pressConfig (payload : Payload) (s : State) : Answer :=
  let rows := beNat ((payload.drop 1).take 1)
  let cols := beNat ((payload.drop 2).take 1)
  let n := 2 * rows * cols
  if payload.length < 3 ∨ payload.length ≠ (configWidths n).sum then .refuse .badLength 0 else
  match pressOf (beNat (payload.take 1)) with
  | none => .refuse .badArg 1
  | some p =>
    if (s.press p).state ≠ .unconfigured ∧ (s.press p).state ≠ .idle then .refuse .badState 0
    else if (s.press p).run.state = .running then .refuse .busy 0
    else
      let f := readFields (configWidths n) payload
      let entries := parseEntries n (f.drop 3)
      let g := f.drop (3 + 2 * n)
      match firstFailing (configChecks rows cols entries g) with
      | some k => .refuse .badArg (k + 1)
      | none => .ok [] (configure p (parseConfig rows cols g) entries s)

/-- PRESS_CONFIG (R24, R25). -/
def execPressConfig (payload : Payload) (s : State) : Result := answer 0x20 s (pressConfig payload s)

/-! ## Heat modes (R26) -/

/-- Set a heat mode other than RUN (R82). -/
def setHeatMode (p : PressId) (m : HeatMode) (s : State) : State :=
  match m with
  | .off => heatOff p s
  | .standby => heatStandby p s
  | .run => heatRun p s

/-- The effect of HEAT_MODE by press state (R26). -/
def heatModeFor (p : PressId) (m : HeatMode) (s : State) : Answer :=
  match (s.press p).state with
  | .idle =>
    if m = .run then
      if (s.press p).bound.isSome then .ok [] (enterPreheat p (heatRun p s)) else .refuse .badState 0
    else .ok [] (setHeatMode p m s)
  | .preheat | .ready => if m = .run then .ok [] s else .ok [] (enter p .idle Timers.none (setHeatMode p m s))
  | _ => .refuse .badState 0

def heatMode (payload : Payload) (s : State) : Answer :=
  match payload with
  | [b, k] =>
    match pressOf b.toNat, heatModeOf k.toNat with
    | none, _ => .refuse .badArg 1
    | some _, none => .refuse .badArg 2
    | some p, some m => heatModeFor p m s
  | _ => .refuse .badLength 0

/-- HEAT_MODE (R26, R82). -/
def execHeatMode (payload : Payload) (s : State) : Result := answer 0x21 s (heatMode payload s)

/-! ## Loading and recovering (R31, R41 to R45) -/

/-- The serials that the next `n` reservations take (R171). -/
def nextSerials (h : History) (n : Nat) : List Nat := (List.range n).map (h.counter.getD 0 + ·)

def load (payload : Payload) (s : State) : Answer :=
  onePress payload fun p =>
    match loadRefusal p s with
    | some code => .refuse code 0
    | none => .ok (counted u32 (nextSerials s.history (s.cavities p).length)) (takeLoad p s)

/-- LOAD (R31, R32). -/
def execLoad (payload : Payload) (s : State) : Result := answer 0x22 s (load payload s)

/-- RESUME into CURING: the cure timer starts again at the full maximum cure time (R42, R117). -/
def resumeCuring (p : PressId) (s : State) : State :=
  (enter p .curing Timers.none s).updPress p fun pr =>
    { pr with cure := { pr.cure with timer := match s.boundRecipe p with
        | some r => .running (r.cure.maxTime * 1000)
        | none => .stopped } }

/-- An accepted RESUME by prior state (R42); `none` for a prior state that no press holds. -/
def resumeFrom (p : PressId) (prior : PressState) (s : State) : Option State :=
  match prior with
  | .preheat => some (enterPreheat p s)
  | .ready => some (enterReady p s)
  | .loading => some (enterLoading p s)
  | .closing => some (enterClosing p s)
  | .curing => some (if s.allComplete p then enterOpening p (endCure p s) else resumeCuring p s)
  | .opening => some (enterOpening p s)
  | .ejecting => some (resumeEjecting p s)
  | .clearing => some (enterClearing p s)
  | .unconfigured | .idle | .held | .aborting => none

def resume (payload : Payload) (s : State) : Answer :=
  onePress payload fun p =>
    if (s.press p).state = .held && (s.press p).faults.active.isEmpty then
      match (s.press p).prior.bind (fun st => resumeFrom p st s) with
      | some t => .ok [] t
      | none => .refuse .badState 0
    else .refuse .badState 0

/-- RESUME (R41, R42). -/
def execResume (payload : Payload) (s : State) : Result := answer 0x23 s (resume payload s)

/-- Set the undercured mark of every cavity that is not complete, and follow it in the records (R43, R118, R120). -/
def markIncomplete (p : PressId) (s : State) : State :=
  syncCure p ((s.cavities p).foldl (fun t c => t.updPress p fun pr =>
    { pr with cure := { pr.cure with cavities := pr.cure.cavities.upd c fun k =>
        { k with undercured := k.undercured || !k.complete } } }) s)

/-- Set the undercured mark of every cavity with no cure begun, and give each OPEN record the no-cure form (R43, R118). -/
def markNoCure (p : PressId) (s : State) : State :=
  updOpen p (fun r => { r with cure := some .noCureForm })
    ((s.cavities p).foldl (fun t c => t.updPress p fun pr =>
      { pr with cure := { pr.cure with cavities := pr.cure.cavities.upd c fun k => { k with undercured := true } } }) s)

def forceOpen (payload : Payload) (s : State) : Answer :=
  onePress payload fun p =>
    match (s.press p).state, (s.press p).prior with
    | .curing, _ => .ok [] (enterOpening p (endCure p (markIncomplete p s)))
    | .held, some .curing => .ok [] (enterOpening p (endCure p (markIncomplete p s)))
    | .held, some .closing => .ok [] (enterOpening p (markNoCure p s))
    | _, _ => .refuse .badState 0

/-- FORCE_OPEN (R43, R118). -/
def execForceOpen (payload : Payload) (s : State) : Result := answer 0x24 s (forceOpen payload s)

/-- ABORT by press state; PROVE_DONE is queued last, after the events of the changes of press state and of a binding applied on
the way (R44, R45, R78; log 57). -/
def abort (payload : Payload) (s : State) : Answer :=
  onePress payload fun p =>
    match (s.press p).state with
    | .unconfigured | .idle | .aborting => .refuse .badState 0
    | .preheat | .ready => .ok [] (abortRun p (enter p .idle Timers.none (heatStandby p s)))
    | _ => .ok [] (abortRun p (enterAborting p s))

/-- ABORT (R44, R45). -/
def execAbort (payload : Payload) (s : State) : Result := answer 0x25 s (abort payload s)

/-! ## Inhibit gates (R49) -/

/-- The six inhibit sources of a press in one flags byte: heat HOST, FAULT, PERMIT, motion HOST, FAULT, GUARD (log 14). -/
def Press.sourceBits (pr : Press) : Payload := flags (pr.heatSources ++ pr.motionSources)

/-- HEAT_HOLD and MOTION_HOLD: SET is coded 0, RELEASE 1 (R204). -/
def hold (payload : Payload) (s : State) (apply : PressId → Bool → State) : Answer :=
  match payload with
  | [b, k] =>
    match pressOf b.toNat with
    | none => .refuse .badArg 1
    | some p =>
      if !inRange 0 1 k.toNat then .refuse .badArg 2
      else if !(s.press p).configured then .refuse .badState 0
      else
        let t := apply p (k.toNat == 0)
        .ok ((t.press p).sourceBits) t
  | _ => .refuse .badLength 0

/-- HEAT_HOLD (R49); the drive duties follow the heat inhibit (R93). -/
def execHeatHold (payload : Payload) (s : State) : Result :=
  answer 0x26 s (hold payload s fun p set => s.updPress p fun pr => pr.driven { pr with hostHeat := set })

/-- MOTION_HOLD (R49); a release may assert OPEN_CMD (R48, R121). -/
def execMotionHold (payload : Payload) (s : State) : Result :=
  answer 0x27 s (hold payload s fun p set => noteOpenCmd p (s.updPress p fun pr => { pr with hostMotion := set }))

/-! ## Automatic operation (R50) -/

/-- Append one order for a cavity if automatic ordering may (R50). -/
def orderOnce (p : PressId) (s : State) (c : Cavity) : State := if s.mayOrder p c then appendOrder p c s else s

/-- Bring staged charges plus queued orders of each cavity up to 2, cavity 0 first (R50). -/
def fillOrders (p : PressId) (s : State) : State := [Cavity.c0, .c0, .c1, .c1].foldl (orderOnce p) s

/-- The flags take their new values, and each flag that changes acts (R50); autoLoad acts before autoOrder (log 27). -/
def setAuto (p : PressId) (load order : Bool) (s : State) : State :=
  let was := s.press p
  let s1 := s.updPress p fun pr =>
    { pr with autoLoad := load, autoOrder := order, historyFull := pr.historyFull && !(was.autoLoad && !load) }
  let s2 := if load && !was.autoLoad then examineAutoLoad p s1 else s1
  if order && !was.autoOrder then fillOrders p s2 else s2

def auto (payload : Payload) (s : State) : Answer :=
  match payload with
  | [b, k] =>
    match pressOf b.toNat with
    | none => .refuse .badArg 1
    | some p =>
      if !(s.press p).configured then .refuse .badState 0
      else .ok [] (setAuto p (flagBit k.toNat 0) (flagBit k.toNat 1) s)
  | _ => .refuse .badLength 0

/-- AUTO (R50). -/
def execAuto (payload : Payload) (s : State) : Result := answer 0x28 s (auto payload s)

/-! ## Status (R51) -/

/-- A recipe's id and revision, absent values in its place (R51, R205). -/
def refBytes (r : Option RecipeRef) : Payload := optU8 (r.map fun x => x.id) ++ optU8 (r.map fun x => x.rev)

/-- The timeout timer that runs or is paused, with its remaining time, or absent values (R51; log 71). -/
def timerBytes (t : Timers) : Payload :=
  match (allTimers.filterMap fun k => (t.get k).map fun n => (k, n)).head? with
  | some (k, n) => u8 (timerCode k) ++ u32 n
  | none => optU8 none ++ optU32 none

/-- The reply of PRESS_STATUS in the order of R51 (log 14). -/
def pressStatusReply (pr : Press) : Payload :=
  u8 pr.state.code ++ optU8 (if pr.state = .held then pr.prior.map PressState.code else none) ++ u8 pr.heatMode.code
    ++ refBytes pr.bound ++ refBytes pr.pendingBinding ++ pr.sourceBits
    ++ flags [pr.autoLoad, pr.autoOrder, pr.historyFull] ++ flags (allInputs.map pr.level)
    ++ flags ([pr.closeCmd, pr.openCmd, pr.loadCmd] ++ allChannels.map pr.ejectOut)
    ++ timerBytes pr.timers ++ counted ActiveFault.bytes pr.faults.active

/-- PRESS_STATUS (R51). -/
def execPressStatus (payload : Payload) (s : State) : Result :=
  answer 0x29 s (onePress payload fun p => .ok (pressStatusReply (s.press p)) s)

/-! ## Ready dwell and timeout timers (R28, R29) -/

/-- The ready run has reached the recipe's ready dwell (R29). -/
def State.dwellDue (s : State) (p : PressId) : Bool :=
  (s.press p).state == .preheat && (s.press p).readyRun.any fun t => (s.boundRecipe p).any fun r => r.heat.readyDwell * 1000 ≤ t

/-- READY_DWELL_REACHED (R29, R30). -/
def execReadyDwellReached (p : PressId) (s : State) : Result := .next (if s.dwellDue p then enterReady p s else s)

/-- A timeout timer has run out while its running condition holds (R28). -/
def State.timeoutDue (s : State) (p : PressId) (k : TimeoutTimer) : Bool :=
  (s.press p).timers.get k == some 0 && (s.press p).timerRuns k

/-- The fault of an expired timeout timer (R28). -/
def timeoutCode : TimeoutTimer → FaultCode
  | .loadT => .loadTimeout
  | .closeT => .closeTimeout
  | .openT => .openTimeout
  | .clearT => .clearTimeout

/-- An expiry raises its fault; in ABORTING the open timer is set to its full value again (R28, R45). -/
def timeoutExpiry (p : PressId) (k : TimeoutTimer) (s : State) : State :=
  let s1 := raiseFault (.press p) (timeoutCode k) .none s
  if (s.press p).state = .aborting then s1.updPress p fun pr => { pr with timers := freshTimer pr k } else s1

/-- TIMEOUT_TIMER_EXPIRY (R28, R45). -/
def execTimeoutTimerExpiry (p : PressId) (k : TimeoutTimer) (s : State) : Result :=
  .next (if s.timeoutDue p k then timeoutExpiry p k s else s)

end Sys2Proof.Machine
end

