-- ==== Sys2Proof/Machine/HeatControl.lean ====
section
/-! DEFINITION. The zone heat controller: the control tick, the blind hold and the heat status (04). -/

namespace Sys2Proof.Machine

/-! ## The law (R83, R85, R86, R89) -/

/-- The effective setpoint after the ramp of one tick (R83); `ramp` is the recipe's ramp step, absent with no RAMP
section and outside RUN. -/
def rampStep (ramp : Option Nat) (sp spe : Option Int) : Option Int :=
  match sp, spe, ramp with
  | some a, some b, some k =>
    if a - b ≤ k ∧ b - a ≤ k then some a else if b < a then some (b + k) else some (b - k)
  | some a, _, _ => some a
  | none, _, _ => none

/-- The sum u of the proportional and integral terms, every division truncating toward zero (R85). -/
def lawSum (kp e iacc : Int) : Int := (kp * e).tdiv 64 + iacc.tdiv 1024

/-- The demand of the law: 0 with the hot flag set, else u held within 0 to 1000 (R85). -/
def lawDemand (hot : Bool) (u : Int) : Int := if hot then 0 else clamp 0 1000 u

/-- Whether the tick may integrate (R86). -/
def mayIntegrate (u e : Int) (hot limited inhibited : Bool) : Bool :=
  (u ≤ 1000 || e < 0) && (0 ≤ u || 0 < e) && (!hot || e < 0) && !(0 < e && limited) && !inhibited

/-- The accumulator after a tick (R86). -/
def integrate (ki e iacc : Int) (allowed : Bool) : Int := if allowed then clamp 0 1024000 (iacc + ki * e) else iacc

/-- The hot flag after the test of a value (R89). -/
def hotTest (sp band t : Int) (hot : Bool) : Bool := if hot then sp + band.tdiv 2 < t else sp + band < t

/-- The treatment of a zone with a value in STANDBY or RUN: the hot test, the law, the integration (R85, R86, R89). -/
def Zone.regulate (c : PressConfig) (sp : Int) (t : Int) (inhibited : Bool) (z : Zone) : Zone :=
  let hot := hotTest sp c.overtemp t z.hot
  let e := z.spe.getD sp - t
  let u := lawSum c.kp e z.iacc
  { z with
    hot := hot, demand := lawDemand hot u, hold := .stopped
    iacc := integrate c.ki e z.iacc (mayIntegrate u e hot z.feedLimited inhibited) }

/-! ## The tick (R84, R88, R90, R91) -/

/-- The blind hold of a zone runs out: EXPIRED, demand 0, ZONE_BLIND (R91). -/
def expireHold (p : PressId) (i : Nat) (s : State) : State :=
  raiseFault (.press p) .zoneBlind (.zone i) (s.updPress p fun pr => pr.updZone i fun z => { z with hold := .expired, demand := 0 })

/-- The absolute overheat test of a zone (R88). -/
def overheatTest (p : PressId) (i : Nat) (s : State) : State :=
  match ((s.press p).zones[i]?).bind Zone.value with
  | some t =>
    if 3200 < t ∧ !(s.press p).faults.active.any (fun f => f.code == .overheat) then raiseFault (.press p) .overheat (.zone i) s
    else s
  | none => s

/-- The treatment of a zone that is blind by sensor loss (R90, R91). -/
def blindTick (p : PressId) (c : PressConfig) (i : Nat) (z : Zone) (s : State) : State :=
  match z.hold with
  | .stopped =>
    if c.holdLimit = 0 then expireHold p i s
    else s.updPress p fun pr => pr.updZone i fun y => { y with hold := .running (c.holdLimit * 1000) }
  | .running _ => s
  | .expired => s.updPress p fun pr => pr.updZone i fun y => { y with demand := 0 }

/-- The treatment of a zone with a value in STANDBY or RUN; a flag that becomes set raises ZONE_HOT (R89). -/
def valueTick (p : PressId) (c : PressConfig) (inhibited : Bool) (i : Nat) (z : Zone) (t : Int) (s : State) : State :=
  match s.setpoint p i with
  | none => s
  | some sp =>
    let y := z.regulate c sp t inhibited
    let s1 := s.updPress p fun pr => pr.updZone i fun _ => y
    if y.hot && !z.hot then raiseFault (.press p) .zoneHot (.zone i) s1 else s1

/-- The treatment of one zone at a tick: the overheat test, then the first line of R84's table that applies. -/
def zoneTick (p : PressId) (inhibited : Bool) (s : State) (i : Nat) : State :=
  let s1 := overheatTest p i s
  match (s1.press p).zones[i]?, (s1.press p).config with
  | some z, some c =>
    if (s1.press p).heatMode = .off then
      s1.updPress p fun pr => pr.updZone i fun y => { y with demand := 0, iacc := 0, hold := .stopped, hot := false }
    else if z.provingBlind then s1.updPress p fun pr => pr.updZone i fun y => { y with demand := 0, hold := .stopped }
    else match z.value with
      | none => blindTick p c i z s1
      | some t => valueTick p c inhibited i z t s1
  | _, _ => s1

/-- The ramp step that applies to a press: that of its bound recipe while in RUN (R83). -/
def State.rampOf (s : State) (p : PressId) : Option Nat :=
  if (s.press p).heatMode = .run then (s.boundRecipe p).bind fun r => r.ramp else none

/-- A control tick: every zone's SPe moves, then the zones are treated in zone order (R83, R84); the heat inhibit is read
at the start of the tick (log 17). The next tick falls 500 ms later (R80). -/
def controlTick (p : PressId) (s : State) : State :=
  let inhibited := (s.press p).heatInhibit
  let s1 := s.updPress p fun pr =>
    { pr with
      nextTick := some 500
      zones := pr.zones.mapIdx fun i z => { z with spe := rampStep (s.rampOf p) (s.setpoint p i) z.spe } }
  (List.range (s.press p).zoneCount).foldl (zoneTick p inhibited) s1

/-- The control tick of a press is due (R80). -/
def State.tickDue (s : State) (p : PressId) : Bool := (s.press p).nextTick == some 0

/-- CONTROL_TICK (R80, R84). -/
def execControlTick (p : PressId) (s : State) : Result := .next (if s.tickDue p then controlTick p s else s)

/-- A zone's blind hold has run out (R91). -/
def State.holdDue (s : State) (p : PressId) (i : Nat) : Bool :=
  ((s.press p).zones[i]?).any fun z => z.hold == .running 0

/-- BLIND_HOLD_EXPIRY (R91). -/
def execBlindHoldExpiry (p : PressId) (i : Nat) (s : State) : Result := .next (if s.holdDue p i then expireHold p i s else s)

/-! ## Status (R96) -/

/-- The remaining time of a running hold (R96). -/
def BlindHold.remaining : BlindHold → Option Nat
  | .running n => some n
  | _ => none

/-- A zone entry of HEAT_STATUS, 22 bytes (R96). -/
def heatEntry (s : State) (p : PressId) (i : Nat) (z : Zone) : Payload :=
  optI16 (s.setpoint p i) ++ optI16 z.spe ++ u16 z.demand.toNat ++ u32 z.iacc.toNat
    ++ u8 z.hold.code ++ optU32 z.hold.remaining ++ flags [z.hot, z.feedLimited] ++ u16 z.request ++ u16 z.grant
    ++ u16 ((s.press p).driveDuty z)

/-- The reply of HEAT_STATUS from a first zone: at most 10 zones (R96; log 14). -/
def heatStatusReply (s : State) (p : PressId) (first : Nat) : Payload :=
  let zs := (((s.press p).zones.zipIdx).drop first).take 10
  u8 (s.press p).heatMode.code ++ flags ((s.press p).heatInhibit :: (s.press p).heatSources) ++ u8 first
    ++ u8 zs.length ++ zs.flatMap fun zi => heatEntry s p zi.2 zi.1

def heatStatus (payload : Payload) (s : State) : Answer :=
  match payload with
  | [b, z] =>
    match pressOf b.toNat with
    | none => .refuse .badArg 1
    | some p =>
      if !(s.press p).configured then .refuse .badState 0
      else if (s.press p).zoneCount ≤ z.toNat then .refuse .badArg 2
      else .ok (heatStatusReply s p z.toNat) s
  | _ => .refuse .badLength 0

/-- HEAT_STATUS (R96). -/
def execHeatStatus (payload : Payload) (s : State) : Result := answer 0x38 s (heatStatus payload s)

end Sys2Proof.Machine
end

