-- ==== Sys2Proof/Machine/FeedControl.lean ====
section
/-! DEFINITION. The feed allocator: the allocation round and its status (05). -/

namespace Sys2Proof.Machine

/-- The class of a press by its state, HELD by its prior state (R100). -/
def classFor (heat : HeatMode) : PressState → FeedClass
  | .closing | .curing => .one
  | .loading | .ready | .opening | .ejecting | .clearing | .aborting => .two
  | .preheat => .three
  | .idle => if heat = .off then .unclassed else .three
  | .unconfigured | .held => .unclassed

def Press.classNow (pr : Press) : FeedClass :=
  match pr.state, pr.prior with
  | .held, some st => classFor pr.heatMode st
  | st, _ => classFor pr.heatMode st

/-- The request of a zone (R99). -/
def Press.requestOf (pr : Press) (z : Zone) : Nat :=
  if pr.heatInhibit || pr.heatMode == .off then 0 else z.demand.toNat * z.rated / 1000

/-- The grant of a request in a class with sum `total` that is offered `remaining` (R101). -/
def grantOf (remaining total r : Nat) : Nat := if total ≤ remaining then r else r * remaining / total

/-- The presses that a round places in a class (R100). -/
def State.inClass (s : State) (k : FeedClass) : List Press :=
  (allPresses.map s.press).filter fun pr => pr.configured && pr.classNow == k

/-- The requests of every zone of a class (R101 step 1). -/
def State.classRequests (s : State) (k : FeedClass) : List Nat :=
  (s.inClass k).flatMap fun pr => pr.zones.map pr.requestOf

/-- Serve one class from what remains (R101 steps 1 to 3). -/
def serveClass (remaining : Nat) (requests : List Nat) : ClassTotal :=
  let total := requests.sum
  ⟨total, remaining, (requests.map (grantOf remaining total)).sum, decide (remaining < total)⟩

/-- The three classes served in order (R101). -/
def State.classTotals (s : State) (limit : Nat) : ClassTotal × ClassTotal × ClassTotal :=
  let c1 := serveClass limit (s.classRequests .one)
  let c2 := serveClass (limit - c1.granted) (s.classRequests .two)
  let c3 := serveClass (limit - c1.granted - c2.granted) (s.classRequests .three)
  (c1, c2, c3)

/-- The grant duty of a grant (R102). -/
def grantDuty (g rated : Nat) : Nat := if rated = 0 then 0 else g * 1000 / rated

/-- Set a zone's request, grant, duty and feed-limited mark (R87, R102). -/
def Zone.setGrant (r g : Nat) (z : Zone) : Zone :=
  { z with request := r, grant := g, duty := grantDuty g z.rated, feedLimited := decide (g < r) }

/-- The grant of a press's class for a request; an unclassed press is granted 0 (R100, R101). -/
def classGrant (c1 c2 c3 : ClassTotal) (k : FeedClass) (r : Nat) : Nat :=
  match k with
  | .one => grantOf c1.offered c1.requested r
  | .two => grantOf c2.offered c2.requested r
  | .three => grantOf c3.offered c3.requested r
  | .unclassed => 0

/-- Hand a round's results to one press; the drive duties that change are sent (R93, R94, R100, R102). -/
def Press.takeRound (c1 c2 c3 : ClassTotal) (pr : Press) : Press :=
  if pr.configured then
    pr.driven { pr with
      feedClass := pr.classNow
      zones := pr.zones.map fun z => z.setGrant (pr.requestOf z) (classGrant c1 c2 c3 pr.classNow (pr.requestOf z)) }
  else pr

/-- Whether a press counts the round toward FEED_SHORT (R105). -/
def Press.countsShort (c1 : ClassTotal) (pr : Press) : Bool :=
  pr.configured && pr.feedClass == .one && c1.scaled && 0 < (pr.zones.map fun z => z.request).sum

/-- Update a press's shortfall count after a round (R105). -/
def countShortfall (c1 : ClassTotal) (s : State) (p : PressId) : State :=
  if (s.press p).countsShort c1 then
    if 10 ≤ (s.press p).shortfall + 1 then
      raiseFault (.press p) .feedShort .none (s.updPress p fun pr => { pr with shortfall := 0 })
    else s.updPress p fun pr => { pr with shortfall := pr.shortfall + 1 }
  else s.updPress p fun pr => { pr with shortfall := 0 }

/-- An allocation round (R98 to R102, R105); the presses count their shortfalls in press order, which is the order of the
FEED_SHORT of one round (log 48). -/
def allocationRound (s : State) : State :=
  let limit := s.feed.configured
  let c := s.classTotals limit
  let s1 := { s with
    presses := ⟨s.presses.p1.takeRound c.1 c.2.1 c.2.2, s.presses.p2.takeRound c.1 c.2.1 c.2.2,
      s.presses.p3.takeRound c.1 c.2.1 c.2.2, s.presses.p4.takeRound c.1 c.2.1 c.2.2⟩
    feed := ⟨s.feed.configured, limit, c.1, c.2.1, c.2.2, some s.time, 500⟩ }
  allPresses.foldl (countShortfall c.1) s1

/-- The allocation round is due (R98). -/
def State.roundDue (s : State) : Bool := s.feed.nextRound == 0

/-- ALLOCATION_ROUND (R98, R101). -/
def execAllocationRound (s : State) : Result := .next (if s.roundDue then allocationRound s else s)

/-! ## Status (R106) -/

def ClassTotal.bytes (c : ClassTotal) : Payload := u32 c.requested ++ u16 c.offered ++ u16 c.granted ++ flags [c.scaled]

/-- A press line: its class (4 for UNCONFIGURED, log 14), its request and grant sums, its shortfall count. -/
def feedEntry (pr : Press) : Payload :=
  u8 (if pr.configured then pr.feedClass.code else 4) ++ u16 (pr.zones.map fun z => z.request).sum
    ++ u16 (pr.zones.map fun z => z.grant).sum ++ u8 pr.shortfall

/-- FEED_STATUS; between a cell reset and the next round it gives the time of the round before the reset (R106, R107; log 41). -/
def feedStatusReply (s : State) : Payload :=
  optTime s.feed.lastRound ++ u16 s.feed.inForce ++ u16 s.feed.configured ++ s.feed.class1.bytes ++ s.feed.class2.bytes
    ++ s.feed.class3.bytes ++ allPresses.flatMap fun p => feedEntry (s.press p)

/-- FEED_STATUS (R106). -/
def execFeedStatus (payload : Payload) (s : State) : Result := answer 0x3C s (noPayload payload (.ok (feedStatusReply s) s))

end Sys2Proof.Machine
end

