-- ==== Sys2Proof/Machine/CureControl.lean ====
section
/-! DEFINITION. The cure integrator: the cure tick, the cure timer and the cure status (06). -/

namespace Sys2Proof.Machine

/-! ## Rate and dose (R110 to R112) -/

/-- The cure rate of a zone value on a rate table: the nearest end's rate outside the table, interpolation with
truncation toward zero between two breakpoints (R110). -/
def rateAt : List (Int × Nat) → Int → Nat
  | [], _ => 0
  | [(_, k)], _ => k
  | (t0, k0) :: (t1, k1) :: rest, t =>
    if t ≤ t0 then k0
    else if t < t1 then ((k0 : Int) + (((k1 : Int) - k0) * (t - t0)).tdiv (t1 - t0)).toNat
    else rateAt ((t1, k1) :: rest) t

/-- The dose a zone gains at a tick, saturating; a blind zone gains none (R111, R112). -/
def Zone.addDose (c : CureSection) (z : Zone) : Zone :=
  match z.value with
  | none => z
  | some t =>
    let x := rateAt c.points t * c.period + z.residue
    { z with dose := min 4294967295 (z.dose + x / 256), residue := x % 256 }

/-! ## Cavities (R112 to R116) -/

/-- The zones of a cavity's footprint with their numbers, in zone order. -/
def footprintZones (zs : List Zone) (f : List Nat) : List (Nat × Zone) :=
  f.filterMap fun i => (zs[i]?).map fun z => (i, z)

/-- A zone out of the recipe's cure bands; a blind zone is not tested (R115). -/
def outOfBand (r : Recipe) (i : Nat) (z : Zone) : Bool :=
  match z.value, r.heat.setpoints[i]? with
  | some t, some sp => t < sp - r.cure.lowBand || sp + r.cure.highBand < t
  | _, _ => false

/-- Extremes that take in a further value (R116). -/
def takeExtreme (e : Option (Int × Int)) (t : Int) : Option (Int × Int) :=
  match e with
  | none => some (t, t)
  | some (lo, hi) => some (min lo t, max hi t)

/-- Step 2 of a tick for one cavity: degraded list, blind flag, excursion time, extremes (R112, R113, R115, R116). -/
def CureCavity.measure (r : Recipe) (zs : List (Nat × Zone)) (k : CureCavity) : CureCavity :=
  { k with
    degraded := zs.foldl (fun d iz => if iz.2.source = .primary || d.contains iz.1 then d else d ++ [iz.1]) k.degraded
    blind := k.blind || zs.any fun iz => iz.2.isBlind
    excursion := if zs.any fun iz => outOfBand r iz.1 iz.2 then min 4294967295 (k.excursion + r.cure.period) else k.excursion
    extremes := (zs.filterMap fun iz => iz.2.value).foldl takeExtreme k.extremes }

/-- Step 3 of a tick for one cavity: the completion test on the doses (R114). -/
def CureCavity.test (r : Recipe) (zs : List (Nat × Zone)) (offset : Option Nat) (k : CureCavity) : CureCavity :=
  if !k.complete && zs.all (fun iz => decide (r.cure.target * 1000 ≤ iz.2.dose)) then { k with complete := true, offset := offset } else k

/-- A cure tick (R109). -/
def cureTick (p : PressId) (r : Recipe) (s : State) : State :=
  let zs := (s.press p).zones.map (Zone.addDose r.cure)
  let offset := (s.press p).cure.closedTime.map fun t => (s.time - t).toNat
  let step : Two CureCavity → Cavity → Two CureCavity := fun ks c =>
    ks.upd c fun k => (k.measure r (footprintZones zs (s.footprint p c))).test r (footprintZones zs (s.footprint p c)) offset
  let s1 := s.updPress p fun pr =>
    { pr with
      zones := zs
      cure := { pr.cure with
        cavities := (s.cavities p).foldl step pr.cure.cavities
        ticks := min 65535 (pr.cure.ticks + 1)
        nextTick := some r.cure.period } }
  let s2 := syncCure p s1
  if (s2.press p).state = .curing && s2.allComplete p then enterOpening p (endCure p s2) else s2

/-- The cure tick of a press is due, with the recipe it works to (R109). -/
def State.cureTickDue (s : State) (p : PressId) : Bool :=
  (s.press p).cure.state == .running && (s.press p).cure.nextTick == some 0 && (s.boundRecipe p).isSome

/-- CURE_TICK (R109). -/
def execCureTick (p : PressId) (s : State) : Result :=
  .next (match s.boundRecipe p with
    | some r => if s.cureTickDue p then cureTick p r s else s
    | none => s)

/-! ## The cure timer (R117) -/

def State.cureTimerDue (s : State) (p : PressId) : Bool :=
  (s.press p).cure.state == .running && (s.press p).cure.timer == .running 0

def cureTimerExpiry (p : PressId) (s : State) : State :=
  let s1 := s.updPress p fun pr => { pr with cure := { pr.cure with timer := .expired } }
  match ((s.cavities p).filter fun c => !((s.press p).cure.cavities.get c).complete).head? with
  | some c => raiseFault (.press p) .cureTimeout (.cavity c) s1
  | none => s1

/-- CURE_TIMER_EXPIRY (R117). -/
def execCureTimerExpiry (p : PressId) (s : State) : Result := .next (if s.cureTimerDue p then cureTimerExpiry p s else s)

/-! ## Status (R122) -/

def CureTimer.remaining : CureTimer → Option Nat
  | .running n => some n
  | _ => none

/-- One cavity of CURE_STATUS (R122; log 14). -/
def cureEntry (zs : List Zone) (f : List Nat) (k : CureCavity) : Payload :=
  flags [k.complete, k.blind, k.undercured] ++ optU32 k.offset ++ u32 k.excursion ++ optI16 (k.extremes.map fun e => e.1)
    ++ optI16 (k.extremes.map fun e => e.2) ++ counted u8 k.degraded
    ++ optU32 ((lowestDose zs f).map fun d => d.1) ++ optU8 ((lowestDose zs f).map fun d => d.2)

def cureStatusReply (s : State) (p : PressId) : Payload :=
  let c := (s.press p).cure
  u8 c.state.code ++ optTime c.closedTime ++ u16 c.ticks ++ u8 c.timer.code ++ optU32 c.timer.remaining
    ++ counted (fun k => cureEntry (s.press p).zones (s.footprint p k) (c.cavities.get k)) (s.cavities p)

/-- CURE_STATUS (R122). -/
def execCureStatus (payload : Payload) (s : State) : Result := answer 0x40 s (pressReport payload s (cureStatusReply s))

end Sys2Proof.Machine
end

