-- ==== Sys2Proof/Machine/WeighStation.lean ====
section
/-! DEFINITION. The weigh station: samples, averages and settles, the building of a charge, calibration, TRAY_PRESENT and
the status (07). -/

namespace Sys2Proof.Machine

/-! ## Windows and averages (R125, R127, R128) -/

/-- A window of the newest `k` items, newest last, with one more. -/
def push (k : Nat) (xs : List Int) (x : Int) : List Int := (xs ++ [x]).drop (xs.length + 1 - k)

/-- The newest `k` items of a window, or all of them. -/
def newest (k : Nat) (xs : List Int) : List Int := xs.drop (xs.length - k)

/-- The rounded mean of a list that is not empty (R127, R130). -/
def meanOf (xs : List Int) : Int := roundDiv xs.sum xs.length

/-- The mass of a raw count before the clamp, 0 while no span is set (R125). -/
def WorkingCopy.scaled (c : WorkingCopy) (raw : Int) : Int :=
  match c.span with
  | some k => roundDiv ((raw - c.zero) * k) 65536
  | none => 0

/-- The mass of a raw count (R125). -/
def WorkingCopy.mass (c : WorkingCopy) (raw : Int) : Int := clamp (-300000) 300000 (c.scaled raw)

/-- An overload sample: its mass is clamped at +300,000 (R125). -/
def WorkingCopy.overload (c : WorkingCopy) (raw : Int) : Bool := 300000 < c.scaled raw

/-- The largest minus the smallest of a list (R128). -/
def spanOf (xs : List Int) : Int := xs.foldl max (xs.headD 0) - xs.foldl min (xs.headD 0)

/-- The span of the newest S averages, absent while fewer are held (R128, R143). -/
def Weigh.settleSpan (w : Weigh) : Option Int :=
  if w.used.s ≤ w.averages.length then some (spanOf (newest w.used.s w.averages)) else none

/-- The newest average (R127), the last of the average history: where the start of an attempt has emptied it there is none
until the next sample (R134; log 52). -/
def Weigh.average (w : Weigh) : Option Int := w.averages.getLast?

/-- The settled value while the station is settled (R128). -/
def Weigh.settled (w : Weigh) : Option Int :=
  match w.settleSpan with
  | some d => if d ≤ w.used.b then w.average else none
  | none => none

/-! ## The end of an attempt (R138, R139) -/

def State.setWeigh (s : State) (f : Weigh → Weigh) : State := { s with weigh := f s.weigh }

/-- The station enters IDLE, where an attempt may start (R134). -/
def enterIdle (s : State) : State := startBuild (s.setWeigh fun w => { w with state := .idle })

/-- One more counted attempt of an order; at three the order is removed with ORDER_FAILED (R139). -/
def countFailure (b : Build) (s : State) : State :=
  let s1 : State := { s with orders := s.orders.map fun o => if o.number = b.order then { o with attempts := o.attempts + 1 } else o }
  if s1.orders.any (fun o => o.number == b.order && decide (3 ≤ o.attempts)) then
    queueEvent .orderFailed (some b.press) (.order b.cavity b.order) none
      { s1 with orders := s1.orders.filter fun o => o.number != b.order }
  else s1

/-- An attempt fails: counted against its order, the build discarded, the station in the given state (R139). -/
def failAttempt (st : StationState) (b : Build) (s : State) : State := countFailure b (dropBuild st s)

/-- The plies and total tolerance an attempt is weighed to (R136, R138). -/
def State.plan (s : State) (b : Build) : Option CavityCharge :=
  (s.recipes.find b.recipe.id).bind fun r => r.charge.cavities[cavityCode b.cavity]?

/-- The charge number after one (R138). -/
def nextNumber (n : Nat) : Nat := if n = 65535 then 1 else n + 1

/-- The charge record of a build with its expiry time (R138, R148). -/
def Build.charge (b : Build) (number : Nat) (now : Time) (outLife : Nat) : Charge where
  number := number
  press := b.press
  cavity := b.cavity
  recipe := b.recipe
  tare := b.tare.getD 0
  masses := b.masses
  total := b.prev.getD 0 - b.tare.getD 0
  attempts := b.attempt
  weighed := now
  expiry := now + BitVec.ofNat 32 (outLife * 1000)

/-- Make the charge record: stage it, remove the order, queue CHARGE_DONE, enter UNLOADING; auto-load is re-examined
(R33, R138). -/
def makeCharge (b : Build) (s : State) : State :=
  let life := ((s.recipes.find b.recipe.id).map fun r => r.charge.outLife).getD 0
  let ch := b.charge s.weigh.nextCharge s.time life
  let s1 := s.updPress b.press fun pr => { pr with staging := pr.staging.upd b.cavity fun l => l ++ [ch] }
  let s2 := { s1 with orders := s1.orders.filter fun o => o.number != b.order }
  let s3 := queueEvent .chargeDone (some b.press) (.charge b.cavity) (some ch.number) s2
  examineAutoLoad b.press (dropBuild .unloading (s3.setWeigh fun w => { w with nextCharge := nextNumber w.nextCharge }))

/-- The distance of two quantities. -/
def dist (a b : Int) : Int := if a ≤ b then b - a else a - b

/-- The total check (R138). -/
def totalCheck (b : Build) (k : CavityCharge) (s : State) : State :=
  let total := b.prev.getD 0 - b.tare.getD 0
  if dist total (k.plies.map fun y => y.target).sum ≤ k.totalTolerance then makeCharge b s
  else failAttempt .unloading b (raiseFault .cell .chargeReject .none s)

/-! ## The build states (R135 to R137) -/

def setBuild (st : StationState) (b : Build) (s : State) : State :=
  s.setWeigh fun w => { w with state := st, build := some b }

/-- TARING acts on a settle (R135). -/
def tareSettle (b : Build) (v : Int) (s : State) : State :=
  if 0 ≤ v ∧ v ≤ s.weigh.used.tareMax then setBuild .awaitPly { b with tare := some v, prev := some v, ply := 1 } s
  else dropBuild .unloading (raiseFault .cell .tareFault .none s)

/-- An accepted ply (R136). -/
def acceptPly (b : Build) (k : CavityCharge) (v : Int) (s : State) : State :=
  let b1 := { b with masses := b.masses ++ [v - b.prev.getD 0], prev := some v, rejects := 0 }
  if k.plies.length ≤ b.ply then totalCheck b1 k (setBuild .settling b1 s)
  else setBuild .awaitPly { b1 with ply := b.ply + 1 } s

/-- A rejected ply (R137). -/
def rejectPly (b : Build) (s : State) : State :=
  let b1 := { b with rejects := b.rejects + 1 }
  let s1 := raiseFault .cell .plyReject (.ply b.ply) s
  if 3 ≤ b1.rejects then failAttempt .unloading b1 s1 else setBuild .plyRejected b1 s1

/-- SETTLING acts on a settle (R136). -/
def plySettle (b : Build) (k : CavityCharge) (y : Ply) (v : Int) (s : State) : State :=
  let prev := b.prev.getD 0
  if v ≤ prev + y.target.tdiv 4 then setBuild .awaitPly b s
  else if dist (v - prev) y.target ≤ y.tolerance then acceptPly b k v s
  else rejectPly b s

/-- The tests that the station's state makes on a new average (R135 to R137), those of one state only. DESIGN CHOICE (log 68): the
average whose settle returns PLY_REJECTED to AWAIT_PLY is not tested again by AWAIT_PLY, which waits for the next average. -/
def actOnAverage (s : State) : State :=
  match s.weigh.build, s.weigh.average with
  | some b, some avg =>
    match s.plan b with
    | none => s
    | some k =>
      match k.plies[b.ply - 1]? with
      | none => s
      | some y =>
        match s.weigh.state, s.weigh.settled with
        | .taring, some v => tareSettle b v s
        | .awaitPly, _ => if b.prev.getD 0 + y.target.tdiv 4 < avg then setBuild .settling b s else s
        | .settling, some v => plySettle b k y v s
        | .plyRejected, some v => if dist v (b.prev.getD 0) ≤ s.weigh.used.b then setBuild .awaitPly b s else s
        | _, _ => s
  | _, _ => s

/-! ## Samples (R124 to R126, R140, R142) -/

/-- The first good sample ends FAULTED (R142). -/
def leaveFaulted (s : State) : State :=
  if s.weigh.state = .faulted then
    if s.weigh.copy.valid then enterIdle s else s.setWeigh fun w => { w with state := .uncalibrated }
  else s

/-- Any sample, good or ERR, restarts the sample timer, and the weigh parameters of the latest CELL_CONFIG apply from it
(R126, R133; log 46). -/
def Weigh.beginSample (next : Nat) (w : Weigh) : Weigh := { w with sampleTimer := next, used := w.params }

/-- A good sample enters the windows, and a new average is formed (R125, R127, R128). -/
def Weigh.takeGood (raw : Int) (w : Weigh) : Weigh :=
  let masses := push 16 w.massWindow (w.copy.mass raw)
  { w with
    errors := 0
    rawWindow := push 16 w.rawWindow raw
    massWindow := masses
    averages := push 50 w.averages (meanOf (newest w.used.n masses)) }

/-- The overload test, then the tests on the new average (R125, R140; log 24). -/
def testSample (raw : Int) (s : State) : State :=
  match s.weigh.build with
  | some b =>
    if s.weigh.state.isBuild && s.weigh.copy.overload raw then raiseFault .cell .overload .none (failAttempt .unloading b s)
    else actOnAverage s
  | none => s

def goodSample (raw : Int) (s : State) : State := testSample raw ((leaveFaulted s).setWeigh (Weigh.takeGood raw))

/-- The scale is lost (R142). -/
def loseScale (s : State) : State :=
  (dropBuild .faulted (raiseFault .cell .scaleLost .none s)).setWeigh fun w =>
    { w with rawWindow := [], massWindow := [], averages := [] }

/-- An ERR sample, of the stream or of the sample timer (R126, R142; log 23). -/
def errSample (s : State) : State :=
  let s1 := s.setWeigh fun w => { w with errors := w.errors + 1 }
  if 50 ≤ s1.weigh.errors ∧ s1.weigh.state ≠ .faulted then loseScale s1 else s1

def scaleSample (x : ScaleSample) (s : State) : State :=
  let s1 := s.setWeigh (Weigh.beginSample 30)
  match x with
  | .raw n => goodSample n s1
  | .errCode => errSample s1
  | .corrupted => errSample s1

/-- SCALE_SAMPLE (R124 to R126). -/
def execScaleSample (x : ScaleSample) (s : State) : Result := .next (scaleSample x s)

/-- The sample timer has run out (R126). -/
def State.sampleDue (s : State) : Bool := s.weigh.sampleTimer == 0

/-- SAMPLE_TIMER_EXPIRY: an ERR sample of the station's own; the next follows 10 ms later (R126). -/
def execSampleTimerExpiry (s : State) : Result :=
  .next (if s.sampleDue then errSample (s.setWeigh (Weigh.beginSample 10)) else s)

/-! ## Calibration (R129 to R132) -/

def State.calBusy (s : State) : Bool := s.weigh.state != .uncalibrated && s.weigh.state != .idle

/-- A calibration request has written the working copy: origin SET, windows emptied, the copy valid once both flags are
set, and with it UNCALIBRATED left for IDLE (R129). -/
def setCopy (f : WorkingCopy → WorkingCopy) (s : State) : State :=
  let s1 := s.setWeigh fun w =>
    let c := f w.copy
    { w with copy := { c with origin := 0, valid := c.valid || (c.zeroSet && c.spanSet) }, massWindow := [], averages := [] }
  if s1.weigh.state = .uncalibrated ∧ s1.weigh.copy.valid then enterIdle s1 else s1

/-- The rounded mean of the newest N raw counts, absent while fewer are held (R130). -/
def Weigh.rawMean (w : Weigh) : Option Int :=
  if w.used.n ≤ w.rawWindow.length then some (meanOf (newest w.used.n w.rawWindow)) else none

def calZero (s : State) : Answer :=
  if s.calBusy then .refuse .busy 0
  else match s.weigh.rawMean with
    | none => .refuse .badState 0
    | some z => .ok (i32 z) (setCopy (fun c => { c with zero := z, zeroSet := true }) s)

/-- CAL_ZERO (R130). -/
def execCalZero (payload : Payload) (s : State) : Result := answer 0x50 s (noPayload payload (calZero s))

/-- The span that a reference mass gives (R130 step 5). -/
def spanFor (m : Nat) (counts : Int) : Int := roundDiv ((m : Int) * 65536) counts.toNat

def calSpan (payload : Payload) (s : State) : Answer :=
  if payload.length ≠ 4 then .refuse .badLength 0 else
  let m := beNat payload
  if s.calBusy then .refuse .busy 0
  else if !inRange 1 300000 m then .refuse .badArg 1
  else if !s.weigh.copy.zeroSet && !s.weigh.copy.valid then .refuse .badState 0
  else match s.weigh.rawMean with
    | none => .refuse .badState 0
    | some mean =>
      if mean - s.weigh.copy.zero < 1000 then .refuse .badArg 1
      else
        let k := spanFor m (mean - s.weigh.copy.zero)
        if k < 1 ∨ 4194303 < k then .refuse .badArg 1
        else .ok (u32 k.toNat) (setCopy (fun c => { c with span := some k.toNat, spanSet := true }) s)

/-- CAL_SPAN (R130). -/
def execCalSpan (payload : Payload) (s : State) : Result := answer 0x51 s (calSpan payload s)

def calSet (payload : Payload) (s : State) : Answer :=
  if payload.length ≠ 8 then .refuse .badLength 0 else
  let f := readFields [4, 4] payload
  let zero := signedField 4 (f.getD 0 0)
  let span := f.getD 1 0
  if s.calBusy then .refuse .busy 0
  else if zero < -8388608 ∨ 8388607 < zero then .refuse .badArg 1
  else if !inRange 1 4194303 span then .refuse .badArg 2
  else .ok [] (setCopy (fun c => { c with zero := zero, span := some span, zeroSet := true, spanSet := true }) s)

/-- CAL_SET (R131). -/
def execCalSet (payload : Payload) (s : State) : Result := answer 0x52 s (calSet payload s)

/-- The checks of CAL_COMMIT in their order, and the row it writes (R132). -/
def commitRow (s : State) : Except Status Nat :=
  if s.calBusy then .error .busy
  else if !s.weigh.copy.valid then .error .badState
  else match s.weigh.rows.findIdx? Option.isNone with
    | none => .error .full
    | some i => .ok (i + 1)

/-- An accepted commit starts the write; the port works until it finishes (R132, R197). -/
def startWrite (row : Nat) (s : State) : State :=
  { s with
    link := { s.link with port := .working, received := [] }
    weigh := { s.weigh with writing := some ⟨row, s.weigh.copy.zero, s.weigh.copy.span.getD 0⟩ } }

/-- CAL_COMMIT (R132). -/
def execCalCommit (payload : Payload) (s : State) : Result :=
  match payload, commitRow s with
  | [], .ok row => .next (if s.listening then startWrite row s else s)
  | [], .error code => answer 0x53 s (.refuse code 0)
  | _, _ => answer 0x53 s (.refuse .badLength 0)

/-- The write in progress finishes: the row is written, the copy's origin is the row, the reply is sent (R132). -/
def finishWrite (w : RowWrite) (s : State) : State :=
  sendReply 0x53 ([0] ++ u8 w.row) (s.setWeigh fun x =>
    { x with
      rows := x.rows.set (w.row - 1) (some ⟨w.zero, w.span, s.time⟩)
      writing := none
      copy := { x.copy with origin := w.row } })

/-- CAL_ROW_WRITTEN (R132). -/
def execCalRowWritten (s : State) : Result :=
  .next (match s.weigh.writing with
    | some w => finishWrite w s
    | none => s)

/-! ## TRAY_PRESENT (R133, R134, R139, R140) -/

/-- The raw level takes a value; a change counts its stable time from 0 (R22). -/
def Filtered.change (level : Bool) (f : Filtered) : Filtered := if f.raw = level then f else { f with raw := level, stable := 0 }

/-- A raw level held for the filter time is not yet accepted (R22). -/
def Filtered.due (time : Nat) (f : Filtered) : Bool := f.raw != f.accepted && time ≤ f.stable

def Filtered.accept (f : Filtered) : Filtered := { f with accepted := f.raw }

/-- The accepted level of TRAY_PRESENT changes: an event at the station (R134, R139, R140). -/
def trayAccept (s : State) : State :=
  let s1 := s.setWeigh fun w => { w with tray := w.tray.accept }
  if s1.weigh.tray.accepted then startBuild s1
  else match s1.weigh.state, s1.weigh.build with
    | .unloading, _ => enterIdle s1
    | st, some b => if st.isBuild then failAttempt .idle b s1 else s1
    | _, none => s1

/-- Accept TRAY_PRESENT if its raw level has held for the station filter time (R22, R133). -/
def settleTray (s : State) : State := if s.weigh.tray.due s.weigh.filter then trayAccept s else s

/-- TRAY_PRESENT_RAW_CHANGE (R22, R133): with a filter time of 0 the change is accepted at once. -/
def execTrayPresentRawChange (level : Bool) (s : State) : Result :=
  let s1 := s.setWeigh fun w => { w with tray := w.tray.change level }
  .next (if s1.weigh.filter = 0 then settleTray s1 else s1)

/-- TRAY_PRESENT_ACCEPTED (R22, R133). -/
def execTrayPresentAccepted (s : State) : Result := .next (settleTray s)

/-! ## Status (R143) -/

/-- A calibration row in WEIGH_STATUS (R143). -/
def rowBytes (r : Option CalRow) : Payload :=
  flags [r.isSome] ++ optI32 (r.map fun x => x.zero) ++ optU32 (r.map fun x => x.span) ++ optTime (r.map fun x => x.time)

/-- The build in WEIGH_STATUS, absent values and an empty list in its place outside the build states (R143; log 14). -/
def buildBytes (s : State) : Payload :=
  match s.weigh.build with
  | some b =>
    let ply := (s.plan b).bind fun k => k.plies[b.ply - 1]?
    u8 b.order ++ u8 (pressCode b.press) ++ u8 (cavityCode b.cavity) ++ u8 b.recipe.id ++ u8 b.recipe.rev ++ u8 b.attempt
      ++ optI32 b.tare ++ optI32 b.prev ++ u8 b.ply ++ optU32 (ply.map fun y => y.target.toNat)
      ++ optU16 (ply.map fun y => y.tolerance.toNat) ++ u8 b.rejects ++ counted i32 b.masses
  | none => List.replicate 6 0xFF ++ optI32 none ++ optI32 none ++ optU8 none ++ optU32 none ++ optU16 none ++ optU8 none ++ u8 0

/-- WEIGH_STATUS; its N, S, B and tare max are those of the latest accepted CELL_CONFIG (R143; log 46). -/
def weighStatusReply (s : State) : Payload :=
  let w := s.weigh
  u8 w.state.code ++ flags [w.tray.accepted] ++ optI32 w.average ++ flags [w.settled.isSome] ++ optI32 w.settled
    ++ optU32 (w.settleSpan.map Int.toNat) ++ u32 w.errors ++ u8 w.params.n ++ u8 w.params.s ++ u16 w.params.b.toNat
    ++ u16 w.params.tareMax.toNat
    ++ i32 w.copy.zero ++ optU32 w.copy.span ++ flags [w.copy.zeroSet, w.copy.spanSet, w.copy.valid] ++ u8 w.copy.origin
    ++ w.rows.flatMap rowBytes ++ u16 w.nextCharge ++ buildBytes s

/-- WEIGH_STATUS (R143). -/
def execWeighStatus (payload : Payload) (s : State) : Result := answer 0x54 s (noPayload payload (.ok (weighStatusReply s) s))

end Sys2Proof.Machine
end

