-- ==== Sys2Proof/Machine/Charges.lean ====
section
/-! DEFINITION. The requests of the order queue and the staging lists, and the expiry of a staged charge (08). -/

namespace Sys2Proof.Machine

/-! ## Orders (R146, R147) -/

/-- Append `n` orders, their numbers being the last `n` of the queue (R146). -/
def appendOrders (p : PressId) (c : Cavity) : Nat → State → State
  | 0, s => s
  | n + 1, s => appendOrders p c n (appendOrder p c s)

/-- The checks of R146 from step 2 on, in their order. -/
def orderRefusal (p : PressId) (cavity count : Nat) (s : State) : Option (Status × Nat) :=
  match (s.press p).captured with
  | none => some (.badState, 0)
  | some ref =>
    let cavities := ((s.recipes.find ref.id).map fun r => r.header.cavities).getD 0
    if s.weigh.state = .uncalibrated then some (.badState, 0)
    else match cavityOf cavity with
      | none => some (.badArg, 2)
      | some c =>
        if cavities ≤ cavity then some (.badArg, 2)
        else if 8 < s.orders.length + count then some (.full, 0)
        else if 2 < s.supply p c + count then some (.full, 0)
        else none

/-- CHARGE_ORDER by its checks in their order; a count that fails in step 1 is named before a cavity that fails in step 4
(R146; log 42). -/
def chargeOrder (payload : Payload) (s : State) : Answer :=
  match payload with
  | [b, c, n] =>
    match pressOf b.toNat with
    | none => .refuse .badArg 1
    | some p =>
      if !inRange 1 2 n.toNat then .refuse .badArg 3
      else match orderRefusal p c.toNat n.toNat s, cavityOf c.toNat with
        | some (code, detail), _ => .refuse code detail
        | none, none => .refuse .badArg 2
        | none, some k =>
          let t := appendOrders p k n.toNat s
          .ok (counted (fun o => u8 o.number) (t.orders.drop s.orders.length)) t
  | _ => .refuse .badLength 0

/-- CHARGE_ORDER (R146). -/
def execChargeOrder (payload : Payload) (s : State) : Result := answer 0x58 s (chargeOrder payload s)

def cancelOrder (payload : Payload) (s : State) : Answer :=
  match payload with
  | [n] =>
    if s.orders.any fun o => o.number == n.toNat then .ok [] (removeOrders (fun o => o.number == n.toNat) s)
    else .refuse .noRecord 0
  | _ => .refuse .badLength 0

/-- CANCEL_ORDER (R147). -/
def execCancelOrder (payload : Payload) (s : State) : Result := answer 0x59 s (cancelOrder payload s)

/-! ## Staging (R149, R154) -/

/-- A charge has reached its expiry time, measured as an elapsed time from the weighed time (R149). -/
def Charge.expired (now : Time) (c : Charge) : Bool := (c.expiry - c.weighed).toNat ≤ (now - c.weighed).toNat

/-- The time remaining to a charge's expiry, in ms (R154). -/
def Charge.remaining (now : Time) (c : Charge) : Nat := (c.expiry - c.weighed).toNat - (now - c.weighed).toNat

def State.expiryDue (s : State) (p : PressId) (c : Cavity) : Bool :=
  ((s.press p).staging.get c).any (Charge.expired s.time)

/-- The oldest expired charge of a list expires (R149). -/
def chargeExpiry (p : PressId) (c : Cavity) (s : State) : State :=
  match ((s.press p).staging.get c).find? (Charge.expired s.time) with
  | none => s
  | some ch =>
    let s1 := s.updPress p fun pr => { pr with staging := pr.staging.upd c fun l => l.eraseP (Charge.expired s.time) }
    autoOrder p c (queueEvent .chargeExpired (some p) (.charge c) (some ch.number) s1)

/-- CHARGE_EXPIRY (R149). -/
def execChargeExpiry (p : PressId) (c : Cavity) (s : State) : Result := .next (chargeExpiry p c s)

/-- An order in GET_STAGING (R154). -/
def orderBytes (s : State) (o : Order) : Payload :=
  u8 o.number ++ u8 (pressCode o.press) ++ u8 (cavityCode o.cavity) ++ u8 o.recipe.id ++ u8 o.recipe.rev ++ u8 o.attempts
    ++ flags [s.weigh.build.any fun b => b.order == o.number]

/-- A charge in GET_STAGING (R154). -/
def chargeBytes (now : Time) (bound : Option RecipeRef) (c : Charge) : Payload :=
  u16 c.number ++ u8 c.recipe.id ++ u8 c.recipe.rev ++ i32 c.tare ++ counted i32 c.masses ++ i32 c.total ++ u8 c.attempts
    ++ time32 c.weighed ++ time32 c.expiry ++ u32 (c.remaining now) ++ flags [bound == some c.recipe]

/-- One staging list in GET_STAGING (R154). -/
def listBytes (s : State) (p : PressId) (c : Cavity) : Payload :=
  u8 (s.queuedFor p c) ++ counted (chargeBytes s.time (s.press p).bound) ((s.press p).staging.get c)

/-- GET_STAGING: the selector QUEUE is coded 0 (R154; log 14), and the number of orders, which R154 names before the next order
number, is the one count of the order list (log 62). The reply is given whole, however long it is (log 54). -/
def getStaging (payload : Payload) (s : State) : Answer :=
  match payload with
  | [b] =>
    if b.toNat = 0 then .ok (u8 s.orders.length ++ u8 s.nextOrder ++ s.orders.flatMap (orderBytes s)) s
    else match pressOf b.toNat with
      | some p => .ok (listBytes s p .c0 ++ listBytes s p .c1) s
      | none => .refuse .badArg 1
  | _ => .refuse .badLength 0

/-- GET_STAGING (R154). -/
def execGetStaging (payload : Payload) (s : State) : Result := answer 0x5A s (getStaging payload s)

end Sys2Proof.Machine
end

