-- ==== Sys2Proof/Machine/Ejection.lean ====
section
/-! DEFINITION. The events of a running ejection and the ejection status (09). -/

namespace Sys2Proof.Machine

/-! ## What is due (R158, R161) -/

/-- A cavity's attempt timer has run out while it is ATTEMPTING (R161). -/
def State.attemptDue (s : State) (p : PressId) (c : Cavity) : Bool :=
  (s.press p).state == .ejecting && ((s.press p).eject.cavities.get c).state == .attempting
    && ((s.press p).eject.cavities.get c).timer == some 0

/-- The cavity that a channel of a press serves under its bound recipe (R156). -/
def State.servedBy (s : State) (p : PressId) (ch : Channel) : Option Cavity :=
  (s.boundRecipe p).bind fun r => channelCavity r.eject r.header.cavities ch

/-- A follower's delay has run out in EJECTING (R158). A delay that runs out with its cavity's attempt timer is not due: the
timeout restarts it before (R161), or ends the sequence (R162, R164). -/
def State.delayDue (s : State) (p : PressId) (ch : Channel) : Bool :=
  (s.press p).state == .ejecting && (s.press p).eject.channels.get ch == .delaying 0
    && !(s.servedBy p ch).any (s.attemptDue p)

/-! ## Delays and strokes (R158, R163) -/

/-- A follower whose delay has run out starts its stroke while its cavity is ATTEMPTING (R158). -/
def delayEnd (p : PressId) (ch : Channel) (s : State) : State :=
  match s.boundRecipe p with
  | none => s
  | some r =>
    syncEject p (s.updEject p fun e =>
      match channelCavity r.eject r.header.cavities ch with
      | some c =>
        if (e.cavities.get c).state = .attempting then e.startStroke r.eject c ch
        else { e with channels := e.channels.upd ch fun _ => .idle }
      | none => { e with channels := e.channels.upd ch fun _ => .idle })

/-- FOLLOWER_DELAY_END (R158). -/
def execFollowerDelayEnd (p : PressId) (ch : Channel) (s : State) : Result :=
  .next (if s.delayDue p ch then delayEnd p ch s else s)

/-- A stroke's time has run out in EJECTING (R158). -/
def State.strokeDue (s : State) (p : PressId) (ch : Channel) : Bool :=
  (s.press p).state == .ejecting &&
    match (s.press p).eject.channels.get ch with
    | .stroking 0 _ => true
    | _ => false

/-- A stroke ends: the channel is IDLE and the end test is made (R158, R163). -/
def strokeEnd (p : PressId) (ch : Channel) (s : State) : State :=
  endTest p (s.updEject p fun e => { e with channels := e.channels.upd ch fun _ => .idle })

/-- STROKE_END (R158, R163). -/
def execStrokeEnd (p : PressId) (ch : Channel) (s : State) : Result := .next (if s.strokeDue p ch then strokeEnd p ch s else s)

/-! ## Attempts (R161, R162) -/

/-- Whether every channel of a cavity is already at force step 4 (R161 step 1). -/
def atFullForce (es : EjectSection) (chs : List Channel) (escalation : Nat) : Bool :=
  chs.all fun ch => strokeForce (es.channels.get ch) escalation == 4

/-- The next attempt of a cavity after a timeout, one step harder unless nothing is gained (R161). -/
def Eject.retry (es : EjectSection) (n : Nat) (c : Cavity) (now : Time) (e : Eject) : Eject :=
  let full := atFullForce es (cavityChannels es n c) (e.cavities.get c).escalation
  Eject.startAttempt es n c now
    { e with cavities := e.cavities.upd c fun k => { k with escalation := if full then k.escalation else k.escalation + 1 } }

/-- A cavity is stuck: its flag is set and STUCK_PART raised (R162). -/
def stuckPart (p : PressId) (c : Cavity) (s : State) : State :=
  raiseFault (.press p) .stuckPart (.cavity c)
    (syncEject p (s.updEject p fun e => { e with cavities := e.cavities.upd c fun k => { k with stuck := true } }))

def attemptExpiry (p : PressId) (c : Cavity) (s : State) : State :=
  match s.boundRecipe p with
  | none => s
  | some r =>
    if ((s.press p).eject.cavities.get c).seqAttempts < r.eject.maxAttempts then
      syncEject p (s.updEject p (Eject.retry r.eject r.header.cavities c s.time))
    else stuckPart p c s

/-- ATTEMPT_TIMER_EXPIRY (R161, R162). -/
def execAttemptTimerExpiry (p : PressId) (c : Cavity) (s : State) : Result :=
  .next (if s.attemptDue p c then attemptExpiry p c s else s)

/-- PART_FREE becomes asserted: an ATTEMPTING cavity of the bound recipe is released, and the end test made (R160). -/
def partFreed (p : PressId) (c : Cavity) (s : State) : State :=
  match s.boundRecipe p with
  | none => s
  | some r =>
    if (s.press p).state = .ejecting && (s.cavities p).contains c && ((s.press p).eject.cavities.get c).state == .attempting
    then endTest p (syncEject p (s.updEject p (Eject.release r.eject r.header.cavities c s.time)))
    else s

/-! ## Status (R167) -/

def ChannelState.left : ChannelState → Option Nat
  | .delaying n => some n
  | .stroking n _ => some n
  | _ => none

def ChannelState.force : ChannelState → Option Nat
  | .stroking _ f => some f
  | _ => none

/-- A channel of EJECT_STATUS: role, cavity served, state, time left, force step (R167); with no bound recipe the role is OFF
(log 53). -/
def channelEntry (r : Option Recipe) (e : Eject) (ch : Channel) : Payload :=
  let role := (r.map fun x => (x.eject.channels.get ch).role).getD .off
  let cavity := r.bind fun x => channelCavity x.eject x.header.cavities ch
  let st := e.channels.get ch
  u8 role.code ++ optU8 (cavity.map cavityCode) ++ u8 st.code ++ optU16 st.left ++ optU8 st.force

/-- A cavity of EJECT_STATUS: every item of R157 in its order (R167). DESIGN CHOICE (log 71): a stopped attempt timer is written
as the absent value. -/
def EjectCavity.bytes (k : EjectCavity) : Payload :=
  u8 k.state.code ++ u8 k.escalation ++ u8 k.seqAttempts ++ optTime k.start ++ optU16 k.timer ++ u8 k.totalAttempts
    ++ u16 k.totalStrokes ++ optU16 k.releaseTime ++ optU8 k.finalForce ++ flags [k.stuck]

def ejectStatusReply (s : State) (p : PressId) : Payload :=
  let r := s.boundRecipe p
  let e := (s.press p).eject
  allChannels.flatMap (channelEntry r e) ++ optU16 (r.map fun x => x.eject.releaseTimeout)
    ++ optU8 (r.map fun x => x.eject.maxAttempts) ++ counted (fun c => (e.cavities.get c).bytes) (s.cavities p)

/-- EJECT_STATUS (R167). -/
def execEjectStatus (payload : Payload) (s : State) : Result := answer 0x60 s (pressReport payload s (ejectStatusReply s))

end Sys2Proof.Machine
end

