-- ==== Sys2Proof/Machine/PartHistory.lean ====
section
/-! DEFINITION. The requests of the part history log (10), with the byte layouts of a part record (R204). -/

namespace Sys2Proof.Machine

def PartRecord.closed (r : PartRecord) : Bool := r.close.isSome

def State.setRecords (s : State) (f : List PartRecord → List PartRecord) : State :=
  { s with history := { s.history with records := f s.history.records } }

/-- The record of a serial. -/
def History.find (h : History) (serial : Nat) : Option PartRecord := h.records.find? fun r => r.serial == serial

/-! ## Listing (R177) -/

/-- The serial counter in a reply, EXHAUSTED as 0 (R205). -/
def counterBytes (h : History) : Payload := u32 (h.counter.getD 0)

/-- An entry of HISTORY_LIST (R177). -/
def listEntry (r : PartRecord) : Payload :=
  u32 r.serial ++ u8 (if r.closed then 1 else 0) ++ u8 (pressCode r.press) ++ u8 (cavityCode r.cavity) ++ flags [r.readFlag]
    ++ optU8 (r.close.map fun c => c.disposition.code)

/-- The reply of HISTORY_LIST (R177). The OPEN records are at most one for each cavity of four presses, 8 in all (R169), so their
number takes one byte; the other counts reach 512 (R205; log 35). -/
def historyListReply (h : History) (start count : Nat) : Payload :=
  let from_ := h.records.filter fun r => decide (start ≤ r.serial)
  u8 (h.records.filter fun r => !r.closed).length ++ u16 (h.records.filter PartRecord.closed).length
    ++ u16 (h.records.filter fun r => r.closed && !r.readFlag).length ++ u16 h.free ++ counterBytes h
    ++ counted listEntry (from_.take count) ++ flags [decide (count < from_.length)]

def historyList (payload : Payload) (s : State) : Answer :=
  if payload.length ≠ 5 then .refuse .badLength 0 else
  let f := readFields [4, 1] payload
  if !inRange 1 16 (f.getD 1 0) then .refuse .badArg 2
  else .ok (historyListReply s.history (f.getD 0 0) (f.getD 1 0)) s

/-- HISTORY_LIST (R177). -/
def execHistoryList (payload : Payload) (s : State) : Result := answer 0x70 s (historyList payload s)

/-! ## Reading (R178, R204) -/

/-- Part 0 of a part record (R204). -/
def partZero (r : PartRecord) : Payload :=
  u32 r.serial ++ u8 (pressCode r.press) ++ u8 (cavityCode r.cavity) ++ u8 r.recipe.id ++ u8 r.recipe.rev ++ time32 r.reserved
    ++ u8 (if r.closed then 1 else 0) ++ flags [r.readFlag] ++ optU16 (r.charge.map fun c => c.number)
    ++ optI32 (r.charge.map fun c => c.tare) ++ optI32 (r.charge.map fun c => c.total) ++ optU8 (r.charge.map fun c => c.attempts)
    ++ optTime (r.charge.map fun c => c.weighed) ++ optU32 (r.charge.map fun c => c.wait)
    ++ counted i32 ((r.charge.map fun c => c.masses).getD [])

/-- The cure summary group, 51 bytes; an absent group is filled with its absent values (R204). -/
def cureGroup (c : Option CureSummary) : Payload :=
  match c with
  | some x =>
    optTime x.closedTime ++ optU32 x.duration ++ optU32 (x.lowest.map fun d => d.1) ++ optU8 (x.lowest.map fun d => d.2)
      ++ optI16 (x.extremes.map fun e => e.1) ++ optI16 (x.extremes.map fun e => e.2) ++ u32 x.excursion
      ++ flags [x.blind, x.undercured, x.offset.isSome] ++ optU32 x.offset ++ u8 x.degraded.length
      ++ (x.degraded.map (BitVec.ofNat 8) ++ List.replicate 24 0xFF).take 24
  | none =>
    List.replicate 13 0xFF ++ optI16 none ++ optI16 none ++ List.replicate 34 0xFF

/-- The demould summary group, 7 bytes; a final force step that is absent is 0 (R204). -/
def demouldGroup (d : Option Demould) : Payload :=
  match d with
  | some x => u8 x.totalAttempts ++ optU16 x.releaseTime ++ u16 x.totalStrokes ++ u8 (x.finalForce.getD 0) ++ flags [x.stuck]
  | none => List.replicate 5 0xFF ++ u8 0 ++ [0xFF]

/-- The faults group, 8 bytes (R204). -/
def faultsGroup (r : PartRecord) : Payload :=
  u8 r.faults.length ++ (r.faults.map (fun c : FaultCode => BitVec.ofNat 8 c.code) ++ List.replicate 6 0xFF).take 6
    ++ flags [r.more, r.stopMark, r.feedShortMark]

def Reasons.bits (x : Reasons) : List Bool := [x.excursion, x.blindZone, x.hardRelease, x.stopped, x.feedShort]

/-- The close group, 6 bytes (R204). -/
def closeGroup (c : Option Closing) : Payload :=
  match c with
  | some x => u8 x.disposition.code ++ flags x.reasons.bits ++ time32 x.time
  | none => List.replicate 6 0xFF

/-- Part 1 of a part record (R204). -/
def partOne (r : PartRecord) : Payload :=
  flags [r.cure.isSome, r.demould.isSome, r.close.isSome, r.note.isSome] ++ cureGroup r.cure ++ demouldGroup r.demould
    ++ faultsGroup r ++ closeGroup r.close ++ u8 (r.note.getD []).length ++ r.note.getD []

/-- A read of a CLOSED record sets its read flag (R178). -/
def PartRecord.markRead (serial : Nat) (r : PartRecord) : PartRecord :=
  if r.serial = serial ∧ r.closed then { r with readFlag := true } else r

def historyRead (payload : Payload) (s : State) : Answer :=
  if payload.length ≠ 5 then .refuse .badLength 0 else
  let f := readFields [4, 1] payload
  if !inRange 0 1 (f.getD 1 0) then .refuse .badArg 2
  else match s.history.find (f.getD 0 0) with
    | none => .refuse .noRecord 0
    | some r =>
      .ok (if f.getD 1 0 = 0 then partZero r else partOne r)
        (s.setRecords fun rs => rs.map (PartRecord.markRead (f.getD 0 0)))

/-- HISTORY_READ (R178). -/
def execHistoryRead (payload : Payload) (s : State) : Result := answer 0x71 s (historyRead payload s)

def historyNext (s : State) : Answer :=
  match s.history.records.find? fun r => r.closed && !r.readFlag with
  | some r => .ok (u32 r.serial) s
  | none => .refuse .noRecord 0

/-- HISTORY_NEXT (R178): the records stand in ascending serial order, so the first unread one has the lowest serial. -/
def execHistoryNext (payload : Payload) (s : State) : Result := answer 0x72 s (noPayload payload (historyNext s))

/-! ## Releasing, noting, numbering (R179 to R181) -/

/-- A record that a release frees: CLOSED, at or below the serial (R179). -/
def PartRecord.freedBy (upTo : Nat) (r : PartRecord) : Bool := r.closed && decide (r.serial ≤ upTo)

/-- A release: the records freed, then auto-load re-examined for every press in press order if any was (R33, R179). -/
def releaseRecords (upTo : Nat) (s : State) : State :=
  let s1 := s.setRecords fun rs => rs.filter fun r => !r.freedBy upTo
  if s.history.records.any (PartRecord.freedBy upTo) then allPresses.foldl (fun t p => examineAutoLoad p t) s1 else s1

/-- HISTORY_RELEASE; the records left are counted before auto-load is re-examined (R179; log 60). -/
def historyRelease (payload : Payload) (s : State) : Answer :=
  if payload.length ≠ 4 then .refuse .badLength 0 else
  let freed := (s.history.records.filter (PartRecord.freedBy (beNat payload))).length
  .ok (u16 freed ++ u16 (s.history.records.length - freed)) (releaseRecords (beNat payload) s)

/-- HISTORY_RELEASE (R179). -/
def execHistoryRelease (payload : Payload) (s : State) : Result := answer 0x73 s (historyRelease payload s)

/-- The note that a text makes: absent when it is empty (R180). -/
def noteOf (text : Payload) : Option Payload := if text.isEmpty then none else some text

def historyNote (payload : Payload) (s : State) : Answer :=
  if payload.length < 4 ∨ 28 < payload.length then .refuse .badLength 0 else
  let serial := beNat (payload.take 4)
  let text := payload.drop 4
  match s.history.find serial with
  | none => .refuse .noRecord 0
  | some r =>
    if !r.closed then .refuse .badState 0
    else if !text.all (fun b => inRange 32 126 b.toNat) then .refuse .badArg 2
    else .ok [] (s.setRecords fun rs => rs.map fun x => if x.serial = serial then { x with note := noteOf text } else x)

/-- HISTORY_NOTE (R180). -/
def execHistoryNote (payload : Payload) (s : State) : Result := answer 0x74 s (historyNote payload s)

def setNextSerial (payload : Payload) (s : State) : Answer :=
  if payload.length ≠ 4 then .refuse .badLength 0
  else if beNat payload = 0 then .refuse .badArg 1
  else if !s.history.records.isEmpty then .refuse .badState 0
  else .ok [] { s with history := { s.history with counter := some (beNat payload) } }

/-- SET_NEXT_SERIAL (R181). -/
def execSetNextSerial (payload : Payload) (s : State) : Result := answer 0x75 s (setNextSerial payload s)

end Sys2Proof.Machine
end

