-- ==== Sys2Proof/Machine/FaultsEvents.lean ====
section
/-! DEFINITION. The requests of the fault and event unit (11). -/

namespace Sys2Proof.Machine

/-! ## Clearing (R187) -/

/-- The clearing condition of an active STOP fault of a press (R187). -/
def Press.mayClear (pr : Press) (f : ActiveFault) : Bool :=
  match f.code with
  | .overheat => pr.zones.all fun z => z.value.any fun t => decide (t ≤ 3100)
  | .zoneBlind =>
    match f.qual with
    | .zone i => (pr.zones[i]?).any fun z => !z.isBlind
    | _ => false
  | .guardOpen => pr.level .guard
  | _ => true

/-- The clearing condition of an active STOP fault of an owner (R187). -/
def State.mayClear (s : State) (o : Owner) (f : ActiveFault) : Bool :=
  match o with
  | .press p => (s.press p).mayClear f
  | .cell => if f.code = .scaleLost then s.weigh.errors == 0 else true

/-- Empty the log of an owner and remove the active faults whose condition holds (R187). -/
def clearOwner (o : Owner) (s : State) : State :=
  s.updActive o fun f => { f with first := none, next := [], active := f.active.filter fun a => !s.mayClear o a }

/-- The effect of CLEAR_FAULTS: a FAULT source that goes may assert OPEN_CMD (R48, R121, R187). -/
def clearFaultsOf (o : Owner) (s : State) : State :=
  match o with
  | .cell => clearOwner .cell s
  | .press p => noteOpenCmd p (clearOwner (.press p) s)

def clearFaults (payload : Payload) (s : State) : Answer :=
  match payload with
  | [b] =>
    match ownerOf b.toNat with
    | none => .refuse .badArg 1
    | some o => .ok (counted ActiveFault.bytes ((clearOwner o s).ownerFaults o).active) (clearFaultsOf o s)
  | _ => .refuse .badLength 0

/-- CLEAR_FAULTS (R187). -/
def execClearFaults (payload : Payload) (s : State) : Result := answer 0x78 s (clearFaults payload s)

/-! ## Masks and status (R188, R189) -/

/-- An owner's whole mask: REPORT 0 or QUIET 1 for each code of its catalogue (R188; log 14). -/
def maskBytes (o : Owner) (f : OwnerFaults) : Payload :=
  counted (fun c => u8 (if f.quiet.contains c then 1 else 0)) (catalogue o)

/-- Set one entry of a mask, the QUIET codes kept in code order (R188). -/
def setQuiet (c : FaultCode) (quiet : Bool) (f : OwnerFaults) : OwnerFaults :=
  { f with quiet := if quiet then addCode c f.quiet else f.quiet.filter fun x => x != c }

def setFaultMask (payload : Payload) (s : State) : Answer :=
  match payload with
  | [b, c, k] =>
    match ownerOf b.toNat with
    | none => .refuse .badArg 1
    | some o =>
      if !inRange 0 1 k.toNat then .refuse .badArg 3
      else match (catalogue o).find? (fun x => x.code == c.toNat) with
        | none => .refuse .badArg 2
        | some code =>
          let t := s.updOwnerFaults o (setQuiet code (k.toNat == 1))
          .ok (maskBytes o (t.ownerFaults o)) t
  | _ => .refuse .badLength 0

/-- SET_FAULT_MASK (R188). -/
def execSetFaultMask (payload : Payload) (s : State) : Result := answer 0x79 s (setFaultMask payload s)

/-- The owner state of a first fault record: a press's state and prior state, or the station's state (R186). -/
def OwnerState.bytes : OwnerState → Payload
  | .press st prior => u8 st.code ++ optU8 (prior.map PressState.code)
  | .station st => u8 st.code

/-- The first fault record, absent values in its place (R189, R205; log 14). -/
def firstBytes (o : Owner) : Option FirstFault → Payload
  | some x => u8 x.code.code ++ u8 x.cls.code ++ time32 x.time ++ x.owner.bytes ++ x.qual.bytes
  | none => optU8 none ++ optU8 none ++ optTime none ++ (match o with | .press _ => [0xFF, 0xFF] | .cell => [0xFF]) ++ [0xFF, 0xFF]

/-- GET_FAULTS; the reply is given whole, however long it is (R189; log 54). -/
def getFaults (payload : Payload) (s : State) : Answer :=
  match payload with
  | [b] =>
    match ownerOf b.toNat with
    | none => .refuse .badArg 1
    | some o =>
      let f := s.ownerFaults o
      .ok (firstBytes o f.first ++ counted (fun c => u8 (FaultCode.code c)) f.next ++ counted ActiveFault.bytes f.active
        ++ maskBytes o f) s
  | _ => .refuse .badLength 0

/-- GET_FAULTS (R189). -/
def execGetFaults (payload : Payload) (s : State) : Result := answer 0x7A s (getFaults payload s)

/-! ## Events (R191, R192) -/

/-- The disabled kinds with one kind's mask set, in the order of R190's table (R192). -/
def setKind (k : EventKind) (disable : Bool) (ds : List EventKind) : List EventKind :=
  allKinds.filter fun x => if x = k then disable else ds.contains x

def setEventMask (payload : Payload) (s : State) : Answer :=
  match payload with
  | [b, k] =>
    match allKinds.find? (fun x => x.code == b.toNat) with
    | none => .refuse .badArg 1
    | some kind =>
      if !inRange 0 1 k.toNat || (kind == .restart && k.toNat == 1) then .refuse .badArg 2
      else
        let ds := setKind kind (k.toNat == 1) s.events.disabled
        .ok (allKinds.flatMap fun x => u8 (if ds.contains x then 1 else 0)) { s with events := { s.events with disabled := ds } }
  | _ => .refuse .badLength 0

/-- SET_EVENT_MASK (R192). -/
def execSetEventMask (payload : Payload) (s : State) : Result := answer 0x7B s (setEventMask payload s)

/-- The reply of GET_EVENTS: overflow flag, count returned, count left, entries (R191, R204). -/
def eventsReply (e : EventUnit) (n : Nat) : Payload :=
  flags [e.overflow] ++ u8 (e.queue.take n).length ++ u8 (e.queue.drop n).length ++ (e.queue.take n).flatMap Event.bytes

def getEvents (payload : Payload) (s : State) : Answer :=
  match payload with
  | [n] =>
    if !inRange 1 16 n.toNat then .refuse .badArg 1
    else .ok (eventsReply s.events n.toNat)
      { s with events := { s.events with queue := s.events.queue.drop n.toNat, overflow := false } }
  | _ => .refuse .badLength 0

/-- GET_EVENTS (R191). -/
def execGetEvents (payload : Payload) (s : State) : Result := answer 0x7C s (getEvents payload s)

end Sys2Proof.Machine
end

