-- ==== Sys2Proof/Machine/Inputs.lean ====
section
/-! DEFINITION. The press inputs: raw changes, acceptance, and what an accepted change does by press state (R22, R34 to
R38, R45, R160). -/

namespace Sys2Proof.Machine

/-- GUARD changes to deasserted: GUARD_OPEN in CLOSING, OPENING and EJECTING, GUARD_LOST in CURING (R35 to R37). -/
def guardLost (p : PressId) (s : State) : State :=
  match (s.press p).state with
  | .closing | .opening | .ejecting => raiseFault (.press p) .guardOpen .none s
  | .curing => raiseFault (.press p) .guardLost .none s
  | _ => s

/-- OPEN accepted-asserted: OPENING to EJECTING, ABORTING to IDLE (R37, R45). -/
def openSeen (p : PressId) (s : State) : State :=
  match (s.press p).state with
  | .opening => enterEjecting p s
  | .aborting => abortingToIdle p s
  | _ => s

/-- An input becomes accepted-asserted. -/
def inputAsserted (p : PressId) (k : PressInput) (s : State) : State :=
  match k with
  | .guard => noteOpenCmd p s
  | .heatPermit => s
  | .closedSw => if (s.press p).state = .closing then enterCuring p s else s
  | .openSw => openSeen p s
  | .loadedSw => if (s.press p).state = .loading then enterClosing p s else s
  | .unloadedSw => if (s.press p).state = .clearing then finishClearing p s else s
  | .partFree0 => partFreed p .c0 s
  | .partFree1 => partFreed p .c1 s

/-- An input becomes accepted-deasserted. -/
def inputDeasserted (p : PressId) (k : PressInput) (s : State) : State :=
  match k with
  | .guard => guardLost p s
  | _ => s

/-- The accepted level of an input takes the raw level, and the change acts; in UNCONFIGURED nothing acts on it (R22). The
drive duties follow the PERMIT source of the heat inhibit (R47, R93). -/
def acceptInput (p : PressId) (k : PressInput) (s : State) : State :=
  let s1 := s.updPress p fun pr => pr.driven { pr with inputs := pr.inputs.upd k Filtered.accept }
  if (s1.press p).level k then inputAsserted p k s1 else inputDeasserted p k s1

/-- The raw level of an input has held its value for the filter time and is not yet accepted (R22). -/
def State.inputDue (s : State) (p : PressId) (k : PressInput) : Bool := ((s.press p).inputs.get k).due s.pressFilter

def settleInput (p : PressId) (k : PressInput) (s : State) : State := if s.inputDue p k then acceptInput p k s else s

/-- PRESS_INPUT_RAW_CHANGE (R22): with a filter time of 0 the change is accepted at once. -/
def execPressInputRawChange (p : PressId) (k : PressInput) (level : Bool) (s : State) : Result :=
  let s1 := s.updPress p fun pr => { pr with inputs := pr.inputs.upd k (Filtered.change level) }
  .next (if s1.pressFilter = 0 then settleInput p k s1 else s1)

/-- PRESS_INPUT_ACCEPTED (R22). -/
def execPressInputAccepted (p : PressId) (k : PressInput) (s : State) : Result := .next (settleInput p k s)

end Sys2Proof.Machine
end

