-- ==== Sys2Proof/Machine/CellLink.lean ====
section
/-! DEFINITION. The link port's receiver and reply, and the cell requests but for CELL_RESET (12). -/

namespace Sys2Proof.Machine

/-! ## Receiving (R197) -/

/-- A complete frame in the receiver is good: its CRC matches and it is for this station (R197). -/
def frameGood (address : BitVec 5) (received : Payload) : Bool := (decodeFrame address received).isSome

/-- A byte in LISTEN: 0xA7 begins a frame, anything else is ignored (R197). -/
def listenByte (l : Link) (x : LineItem) : Link :=
  if x.byte = startByte ∧ !x.framing then { l with port := .receiving, received := [x.byte] }
  else { l with port := .listen, received := [] }

/-- The number of bytes of the frame in the receiver once its length byte is in, `none` before (R196). -/
def frameLength (received : Payload) : Option Nat := (received[3]?).map fun n => n.toNat + 6

/-- A byte in RECEIVING that is in time and well framed: a length above 248 discards the frame; the last byte of a frame
discards it unless the frame is good, which ends the reception with `none` (R197). -/
def storeByte (l : Link) (b : Byte) : Option Link :=
  let got := l.received ++ [b]
  if l.received.length = 3 ∧ 248 < b.toNat then some { l with port := .listen, received := [] }
  else if frameLength got = some got.length then
    if frameGood l.address got then none else some { l with port := .listen, received := [] }
  else some { l with received := got }

/-- One byte at the port by its state; `none` when it completes a good frame, which is a request (R197). -/
def receiveByte (l : Link) (x : LineItem) : Option Link :=
  match l.port with
  | .listen => some (listenByte l x)
  | .receiving =>
    if x.late then some (listenByte l x)
    else if x.framing then some { l with port := .listen, received := [] }
    else storeByte l x.byte
  | .working | .replying => some l

/-- The bytes of a discarded frame leave the port as the receiver leaves it; bytes that complete a good frame are the
request's own command, not this one, and change nothing (log 37). -/
def frameDiscarded (items : List LineItem) (s : State) : State :=
  match items.foldlM receiveByte s.link with
  | some l => { s with link := l }
  | none => s

/-- FRAME_DISCARDED (R197). -/
def execFrameDiscarded (items : List LineItem) (s : State) : Result := .next (frameDiscarded items s)

/-- UNKNOWN_REQUEST_TYPE (R198, R199): a type that names a request is that request's own command (log 37). -/
def execUnknownRequestType (type : Byte) (payload : Payload) (s : State) : Result :=
  if (requestOf type payload).isSome then .next s else answer type s (.refuse .unknownType 0)

/-- REPLY_COMPLETE: at the end of the reply the port returns to LISTEN (R198). -/
def execReplyComplete (s : State) : Result :=
  .next (if s.link.port = .replying then { s with link := { s.link with port := .listen, received := [], reply := none } } else s)

/-! ## IDENTIFY and GET_STATUS (R200) -/

/-- The reply of IDENTIFY; the silicon revision is a free value (log 10). -/
def identifyReply (l : Link) : Payload :=
  u8 0x53 ++ u16 0x0420 ++ [Config.siliconRevision] ++ u8 l.address.toNat ++ u8 l.rate.toNat ++ u8 4

/-- IDENTIFY (R200). -/
def execIdentify (payload : Payload) (s : State) : Result := answer 0x01 s (noPayload payload (.ok (identifyReply s.link) s))

/-- A press line of GET_STATUS (R200). -/
def statusEntry (pr : Press) : Payload :=
  u8 pr.state.code ++ optU8 (if pr.state = .held then pr.prior.map PressState.code else none) ++ u8 pr.heatMode.code
    ++ pr.sourceBits

def getStatusReply (s : State) : Payload :=
  (allPresses.flatMap fun p => statusEntry (s.press p)) ++ u8 s.weigh.state.code ++ u8 s.orders.length
    ++ u8 s.events.queue.length ++ flags [s.events.overflow] ++ counted ActiveFault.bytes s.cellFaults.active
    ++ restartBytes s.restart

/-- GET_STATUS (R200). -/
def execGetStatus (payload : Payload) (s : State) : Result := answer 0x02 s (noPayload payload (.ok (getStatusReply s) s))

/-! ## CELL_CONFIG (R133, R201) -/

/-- The fields of CELL_CONFIG. -/
structure CellFields where
  limit : Nat
  n : Nat
  settle : Nat
  band : Nat
  tareMax : Nat
  pressFilter : Nat
  trayFilter : Nat
  deriving DecidableEq, Repr

def parseCell (f : List Nat) : CellFields :=
  ⟨f.getD 0 0, f.getD 1 0, f.getD 2 0, f.getD 3 0, f.getD 4 0, f.getD 5 0, f.getD 6 0⟩

def cellChecks (x : CellFields) : List Bool :=
  [inRange 1 65535 x.limit, inRange 1 16 x.n, inRange 5 50 x.settle, inRange 1 2000 x.band, inRange 0 50000 x.tareMax,
    inRange 0 100 x.pressFilter, inRange 0 100 x.trayFilter]

/-- The weigh parameters of a request (R133). -/
def CellFields.params (x : CellFields) : WeighParams := ⟨x.n, x.settle, x.band, x.tareMax⟩

/-- Whether the weigh parameters of a request differ from those in force, which are those of the latest accepted
CELL_CONFIG, applied by a sample or not (R133; log 46). -/
def Weigh.differs (w : Weigh) (x : CellFields) : Bool := w.params != x.params

/-- An input of the cell: TRAY_PRESENT, or an input of a press. -/
inductive CellInput where
  | tray
  | press (p : PressId) (k : PressInput)
  deriving DecidableEq, Repr

def allCellInputs : List CellInput := .tray :: allPresses.flatMap fun p => allInputs.map (CellInput.press p)

def State.cellInputDue (s : State) : CellInput → Bool
  | .tray => s.weigh.tray.due s.weigh.filter
  | .press p k => s.inputDue p k

def acceptCellInput (s : State) : CellInput → State
  | .tray => trayAccept s
  | .press p k => acceptInput p k s

/-- One of the events of a list, chosen freely when there is more than one (log 2). -/
def pickOne {α : Type} (xs : List α) (choice : Nat) : Option α :=
  match xs with
  | [] => none
  | [x] => some x
  | _ => xs[Config.eventOrder choice % xs.length]?

/-- Take the acceptances that a new filter time makes due at once, one by one in an order that is free (R22, log 33). -/
def settleInputs : Nat → State → State
  | 0, s => s
  | fuel + 1, s =>
    match pickOne (allCellInputs.filter s.cellInputDue) s.choice with
    | none => s
    | some i => settleInputs fuel (acceptCellInput { s with choice := s.choice + 1 } i)

/-- Apply every field at once; the weigh parameters act from the next sample (R133, R201). -/
def applyCell (x : CellFields) (s : State) : State :=
  settleInputs allCellInputs.length
    { s with
      pressFilter := x.pressFilter
      feed := { s.feed with configured := x.limit }
      weigh := { s.weigh with params := x.params, filter := x.trayFilter } }

def cellConfig (payload : Payload) (s : State) : Answer :=
  if payload.length ≠ 10 then .refuse .badLength 0 else
  let x := parseCell (readFields [2, 1, 1, 2, 2, 1, 1] payload)
  match firstFailing (cellChecks x) with
  | some k => .refuse .badArg k
  | none => if s.weigh.differs x && s.calBusy then .refuse .busy 0 else .ok [] (applyCell x s)

/-- CELL_CONFIG (R133, R201). -/
def execCellConfig (payload : Payload) (s : State) : Result := answer 0x03 s (cellConfig payload s)

/-! ## The restart record (R203) -/

/-- GET_RESTART (R203). -/
def execGetRestart (payload : Payload) (s : State) : Result := answer 0x05 s (noPayload payload (.ok (restartBytes s.restart) s))

/-- CLEAR_RESTART (R203). -/
def execClearRestart (payload : Payload) (s : State) : Result :=
  answer 0x06 s (noPayload payload (.ok [] { s with restart := none }))

end Sys2Proof.Machine
end

