-- ==== Sys2Proof/Machine/Recipes.lean ====
section
/-! DEFINITION. The recipe store: the load sequence, section checks, deleting, listing and binding (01). -/

namespace Sys2Proof.Machine

/-! ## Beginning a load (R5, R6) -/

/-- The header of a RECIPE_BEGIN payload. -/
def parseHeader (f : List Nat) : Header :=
  ⟨f.getD 0 0, f.getD 1 0, f.getD 2 0, f.getD 3 0, f.getD 4 0, flagBit (f.getD 5 0) 0, flagBit (f.getD 5 0) 1⟩

/-- The range checks of R5 step 1, field by field. -/
def headerChecks (h : Header) : List Bool :=
  [inRange 1 255 h.id, true, inRange 1 3 h.rows, inRange 1 4 h.cols, inRange 1 2 h.cavities]

/-- A slot that a discard empties: the LOADING one (R6). -/
def Slot.discard : Slot → Slot
  | .loading _ _ => .empty
  | x => x

/-- Whether a slot holds a VALID recipe of this id. -/
def Slot.validId (id : Nat) : Slot → Bool
  | .valid r => r.header.id == id
  | _ => false

/-- Whether a slot holds this id, LOADING or VALID. -/
def Slot.holdsId (id : Nat) : Slot → Bool
  | .valid r => r.header.id == id
  | .loading h _ => h.id == id
  | .empty => false

/-- The index of the slot chosen for a recipe once any load is discarded: that of the VALID recipe with the same id,
else the lowest EMPTY one (R6). -/
def chooseSlot (slots : List Slot) (id : Nat) : Option Nat :=
  match slots.findIdx? (Slot.validId id) with
  | some i => some i
  | none => slots.findIdx? (fun x => x == .empty)

def PartialRecipe.fresh : PartialRecipe := ⟨.none, .none, .none, .none, .none, .none⟩

def recipeBegin (payload : Payload) (s : State) : Answer :=
  if payload.length ≠ 6 then .refuse .badLength 0 else
  let h := parseHeader (readFields [1, 1, 1, 1, 1, 1] payload)
  match firstFailing (headerChecks h) with
  | some k => .refuse .badArg k
  | none =>
    if (s.recipes.find h.id).isSome && s.inUse h.id then .refuse .inUse 0 else
    let slots := s.recipes.slots.map Slot.discard
    match chooseSlot slots h.id with
    | none => .refuse .full 0
    | some i =>
      .ok (u8 (i + 1) ++ u8 Section.heat.code)
        { s with recipes := ⟨slots.set i (.loading h .fresh), some .heat⟩ }

/-- RECIPE_BEGIN (R5, R6). -/
def execRecipeBegin (payload : Payload) (s : State) : Result := answer 0x10 s (recipeBegin payload s)

/-! ## Sections (R7 to R14) -/

/-- The sections a header calls for, in order (R4). -/
def expected (h : Header) : List Section :=
  [.heat] ++ (if h.hasRamp then [.ramp] else []) ++ [.cure, .charge, .footprint] ++ (if h.hasEject then [.eject] else [])

/-- The section after one that is accepted, none after the last (R4). -/
def nextSection (h : Header) (x : Section) : Option Section :=
  (expected h).find? fun y => decide (x.code < y.code)

/-- The default eject settings (R14). -/
def defaultEject (cavities : Nat) : EjectSection :=
  let ch : Role → ChannelSettings := fun r => ⟨r, 800, 0, 1⟩
  ⟨⟨ch .lead, ch .off, ch (if cavities = 2 then .lead else .off), ch .off⟩, 1500, 4⟩

/-- The widths of the fields of one CHARGE section of `k` cavities, read along the payload: each cavity's ply count
fixes how many plies follow (R199); `none` when the payload is too short to hold a ply count. -/
def chargeWidths : Nat → Payload → Option (List Nat)
  | 0, _ => some [2]
  | _ + 1, [] => none
  | k + 1, n :: rest =>
    (chargeWidths k (rest.drop (6 * n.toNat + 2))).map fun ws =>
      [1] ++ (List.replicate n.toNat [4, 2]).flatten ++ [2] ++ ws

/-- The widths in bytes of the fields of a section's contents under a header (R199, R205). -/
def sectionWidths (h : Header) (contents : Payload) : Section → Option (List Nat)
  | .heat => some (List.replicate (2 * h.rows * h.cols) 2 ++ [1, 2])
  | .ramp => some [1]
  | .cure => some ([2] ++ List.replicate 32 2 ++ [2, 2, 2, 2, 4])
  | .charge => chargeWidths h.cavities contents
  | .footprint => some (List.replicate (8 * h.cavities) 1)
  | .eject => some ((List.replicate 4 [1, 2, 2, 1]).flatten ++ [2, 1])

/-- HEAT contents from its fields (R8). -/
def parseHeat (h : Header) (f : List Nat) : HeatSection :=
  let n := 2 * h.rows * h.cols
  ⟨(f.take n).map Int.ofNat, f.getD n 0, f.getD (n + 1) 0⟩

def heatChecks (h : Header) (f : List Nat) : List Bool :=
  let n := 2 * h.rows * h.cols
  (f.take n).map (inRange 0 3000) ++ [inRange 10 200 (f.getD n 0), inRange 5 600 (f.getD (n + 1) 0)]

def rampChecks (f : List Nat) : List Bool := [inRange 1 100 (f.getD 0 0)]

/-- CURE contents from its fields: period, sixteen (temperature, rate) pairs, target, maximum time, bands, allowance
(R10). -/
def parseCure (f : List Nat) : CureSection :=
  ⟨f.getD 0 0, (List.range 16).map fun i => ((f.getD (1 + 2 * i) 0 : Nat), f.getD (2 + 2 * i) 0),
    f.getD 33 0, f.getD 34 0, f.getD 35 0, f.getD 36 0, f.getD 37 0⟩

def cureChecks (f : List Nat) : List Bool :=
  [inRange 100 1000 (f.getD 0 0) && f.getD 0 0 % 100 == 0]
    ++ (List.range 16).flatMap (fun i =>
      [inRange 0 3000 (f.getD (1 + 2 * i) 0) && (i == 0 || decide (f.getD (2 * i - 1) 0 < f.getD (1 + 2 * i) 0)), true])
    ++ [inRange 1 65535 (f.getD 33 0), inRange 10 3600 (f.getD 34 0), inRange 0 500 (f.getD 35 0),
      inRange 0 500 (f.getD 36 0), inRange 0 600000 (f.getD 37 0)]

/-- The plies of one cavity from its fields after the ply count. -/
def parsePlies : Nat → List Nat → List Ply
  | 0, _ => []
  | n + 1, f => ⟨f.getD 0 0, f.getD 1 0⟩ :: parsePlies n (f.drop 2)

/-- The cavities of a CHARGE section from its fields (R11). -/
def parseCavities : Nat → List Nat → List CavityCharge
  | 0, _ => []
  | k + 1, f =>
    let n := f.getD 0 0
    ⟨parsePlies n (f.drop 1), f.getD (1 + 2 * n) 0⟩ :: parseCavities k (f.drop (2 + 2 * n))

def parseCharge (h : Header) (f : List Nat) : ChargeSection :=
  ⟨parseCavities h.cavities f, f.getLastD 0⟩

/-- The checks of one cavity's plies; the sum limit fails at the target that passes 300,000 (R11; log 11). -/
def plyChecks : Nat → List Ply → List Bool
  | _, [] => []
  | sum, y :: ys =>
    let t := y.target.toNat
    [inRange 10 100000 t && sum + t ≤ 300000, inRange 1 5000 y.tolerance.toNat] ++ plyChecks (sum + t) ys

def chargeChecks (c : ChargeSection) : List Bool :=
  c.cavities.flatMap (fun k =>
      [inRange 1 12 k.plies.length] ++ plyChecks 0 k.plies ++ [inRange 1 10000 k.totalTolerance.toNat])
    ++ [inRange 10 3600 c.outLife]

/-- FOOTPRINT contents: per cavity a TOP window and a BOTTOM window (R12). -/
def parseFootprint : Nat → List Nat → List Footprint
  | 0, _ => []
  | k + 1, f =>
    ⟨⟨.top, f.getD 0 0, f.getD 1 0, f.getD 2 0, f.getD 3 0⟩, ⟨.bottom, f.getD 4 0, f.getD 5 0, f.getD 6 0, f.getD 7 0⟩⟩
      :: parseFootprint k (f.drop 8)

/-- The checks of a window's four fields in order: start within the grid, end not before it and within the grid
(R12, R54; log 11). -/
def windowChecks (rows cols : Nat) (w : Window) : List Bool :=
  [w.rowStart < rows, w.rowStart ≤ w.rowEnd && w.rowEnd < rows, w.colStart < cols, w.colStart ≤ w.colEnd && w.colEnd < cols]

def footprintChecks (h : Header) (fs : List Footprint) : List Bool :=
  fs.flatMap fun f => windowChecks h.rows h.cols f.top ++ windowChecks h.rows h.cols f.bottom

def parseChannel (f : List Nat) : ChannelSettings :=
  ⟨(roleOf (f.getD 0 0)).getD .off, f.getD 1 0, f.getD 2 0, f.getD 3 0⟩

def parseEject (f : List Nat) : EjectSection :=
  ⟨⟨parseChannel f, parseChannel (f.drop 4), parseChannel (f.drop 8), parseChannel (f.drop 12)⟩, f.getD 16 0, f.getD 17 0⟩

/-- The arrangement rules of R13 as one check per channel, in channel order. -/
def arrangement (cavities : Nat) (e : EjectSection) : List Bool :=
  let r0 := e.channels.ch0.role
  let r1 := e.channels.ch1.role
  let r2 := e.channels.ch2.role
  let r3 := e.channels.ch3.role
  [if cavities = 2 then r0 == .lead else r0 != .follow,
    r1 != .lead && (r1 != .follow || r0 == .lead),
    if cavities = 2 then r2 == .lead else r0 == .lead || r2 == .lead,
    r3 != .lead]

/-- The four field checks of one channel entry: role, with its arrangement, then stroke, delay, start force step (R13). -/
def channelChecks (f : List Nat) (arranged : Bool) : List Bool :=
  [(roleOf (f.getD 0 0)).isSome && arranged, inRange 10 5000 (f.getD 1 0), inRange 0 5000 (f.getD 2 0),
    inRange 1 4 (f.getD 3 0)]

def ejectChecks (h : Header) (f : List Nat) : List Bool :=
  let a := arrangement h.cavities (parseEject f)
  channelChecks f (a.getD 0 true) ++ channelChecks (f.drop 4) (a.getD 1 true)
    ++ channelChecks (f.drop 8) (a.getD 2 true) ++ channelChecks (f.drop 12) (a.getD 3 true)
    ++ [inRange 50 5000 (f.getD 16 0), inRange 1 4 (f.getD 17 0)]

/-- The field checks of a section's contents, in the order the section lists its fields (R8 to R13). -/
def sectionChecks (h : Header) (f : List Nat) : Section → List Bool
  | .heat => heatChecks h f
  | .ramp => rampChecks f
  | .cure => cureChecks f
  | .charge => chargeChecks (parseCharge h f)
  | .footprint => footprintChecks h (parseFootprint h.cavities f)
  | .eject => ejectChecks h f

/-- Store a section that passed its checks (R7). -/
def storeSection (h : Header) (f : List Nat) (sec : Section) (x : PartialRecipe) : PartialRecipe :=
  match sec with
  | .heat => { x with heat := some (parseHeat h f) }
  | .ramp => { x with ramp := some (f.getD 0 0) }
  | .cure => { x with cure := some (parseCure f) }
  | .charge => { x with charge := some (parseCharge h f) }
  | .footprint => { x with footprint := some (parseFootprint h.cavities f) }
  | .eject => { x with eject := some (parseEject f) }

/-- The VALID recipe made of a header and its sections, with the default eject settings where the EJECT section was not
loaded (R3, R14). -/
def PartialRecipe.complete (h : Header) (x : PartialRecipe) : Option Recipe :=
  match x.heat, x.cure, x.charge, x.footprint with
  | some heat, some cure, some charge, some footprint =>
    some ⟨h, heat, x.ramp, cure, charge, footprint, x.eject.getD (defaultEject h.cavities)⟩
  | _, _, _, _ => none

/-- The load in progress: the slot's index, header and sections (R4). -/
def RecipeStore.loading? (st : RecipeStore) : Option (Nat × Header × PartialRecipe) :=
  (st.slots.zipIdx.filterMap fun xi =>
    match xi.1 with
    | .loading h x => some (xi.2, h, x)
    | _ => none).head?

/-- The length of a RECIPE_SECTION payload fits its section under the LOADING header, or under a 1 × 1 grid of one
cavity with no load in progress; an unknown section number is checked for its one byte alone (R199). -/
def sectionLengthFits (st : RecipeStore) (payload : Payload) : Bool :=
  match payload with
  | [] => false
  | n :: contents =>
    match sectionOf n.toNat with
    | none => true
    | some sec =>
      let h := match st.loading? with
        | some (_, h, _) => h
        | none => ⟨1, 0, 1, 1, 1, false, false⟩
      match sectionWidths h contents sec with
      | none => false
      | some ws => contents.length == ws.sum

def recipeSection (payload : Payload) (s : State) : Answer :=
  if !sectionLengthFits s.recipes payload then .refuse .badLength 0 else
  match s.recipes.pointer, s.recipes.loading? with
  | some want, some (i, h, x) =>
    match sectionOf (beNat (payload.take 1)) with
    | none => .refuse .badArg 1
    | some sec =>
      if sec ≠ want then .refuse .sequence want.code else
      let contents := payload.drop 1
      let f := readFields ((sectionWidths h contents sec).getD []) contents
      match firstFailing (sectionChecks h f sec) with
      | some k => .refuse .badArg (k + 1)
      | none =>
        let y := storeSection h f sec x
        match nextSection h sec with
        | some nxt => .ok (u8 nxt.code) { s with recipes := ⟨s.recipes.slots.set i (.loading h y), some nxt⟩ }
        | none =>
          let slot := match y.complete h with
            | some r => Slot.valid r
            | none => Slot.loading h y
          .ok (u8 0xFE) { s with recipes := ⟨s.recipes.slots.set i slot, none⟩ }
  | _, _ => .refuse .badState 0

/-- RECIPE_SECTION (R7 to R14). -/
def execRecipeSection (payload : Payload) (s : State) : Result := answer 0x11 s (recipeSection payload s)

/-! ## Abandoning, deleting, listing (R15, R17) -/

def recipeAbandon (s : State) : Answer :=
  match s.recipes.pointer with
  | none => .refuse .badState 0
  | some _ => .ok [] { s with recipes := ⟨s.recipes.slots.map Slot.discard, none⟩ }

/-- RECIPE_ABANDON (R15). -/
def execRecipeAbandon (payload : Payload) (s : State) : Result := answer 0x12 s (noPayload payload (recipeAbandon s))

def recipeDelete (payload : Payload) (s : State) : Answer :=
  match payload with
  | [b] =>
    match s.recipes.slots.findIdx? (Slot.holdsId b.toNat) with
    | none => .refuse .noRecord 0
    | some i =>
      match s.recipes.slots[i]? with
      | some (.valid _) =>
        if s.inUse b.toNat then .refuse .inUse 0
        else .ok [] { s with recipes := { s.recipes with slots := s.recipes.slots.set i .empty } }
      | _ => .refuse .badState 0
  | _ => .refuse .badLength 0

/-- RECIPE_DELETE (R15). -/
def execRecipeDelete (payload : Payload) (s : State) : Result := answer 0x13 s (recipeDelete payload s)

/-- One slot of RECIPE_LIST: state, then the header with its flags and the in-use flag, absent for EMPTY (R17); the in-use
bit of a LOADING slot is 0 (log 55). -/
def slotBytes (s : State) (x : Slot) : Payload :=
  let header : Header → Bool → Payload := fun h used =>
    u8 h.id ++ u8 h.rev ++ u8 h.rows ++ u8 h.cols ++ u8 h.cavities ++ flags [h.hasRamp, h.hasEject, used]
  match x with
  | .empty => u8 0 ++ List.replicate 6 0xFF
  | .loading h _ => u8 1 ++ header h false
  | .valid r => u8 2 ++ header r.header (s.inUse r.header.id)

def recipeListReply (s : State) : Payload :=
  s.recipes.slots.flatMap (slotBytes s) ++ optU8 (s.recipes.pointer.map Section.code)

/-- RECIPE_LIST (R17). -/
def execRecipeList (payload : Payload) (s : State) : Result := answer 0x14 s (noPayload payload (.ok (recipeListReply s) s))

/-! ## Binding (R18, R20) -/

/-- Whether a recipe's grid equals the press's configured grid (R18 step 4). -/
def Press.gridIs (pr : Press) (h : Header) : Bool :=
  pr.config.any fun c => c.rows == h.rows && c.cols == h.cols

/-- Apply a binding outside a cycle: a press in PREHEAT or READY enters PREHEAT afresh (R20). DESIGN CHOICE (log 70): the scrub
comes first, so that its CHARGE_SCRAPPED events stand before the PRESS_STATE of that PREHEAT. -/
def bindNow (p : PressId) (ref : RecipeRef) (s : State) : State :=
  let t := applyBinding p ref s
  match (s.press p).state with
  | .preheat | .ready => enterPreheat p t
  | _ => t

def bindRecipe (payload : Payload) (s : State) : Answer :=
  match payload with
  | [b, id] =>
    match pressOf b.toNat with
    | none => .refuse .badArg 1
    | some p =>
      if !(s.press p).configured then .refuse .badState 0 else
      match s.recipes.find id.toNat with
      | none => .refuse .badArg 2
      | some r =>
        if !(s.press p).gridIs r.header then .refuse .badArg 2 else
        match (s.press p).state with
        | .idle | .preheat | .ready => .ok (u8 0) (bindNow p r.header.ref s)
        | _ => .ok (u8 1) (s.updPress p fun pr => { pr with pendingBinding := some r.header.ref })
  | _ => .refuse .badLength 0

/-- BIND_RECIPE (R18, R20). -/
def execBindRecipe (payload : Payload) (s : State) : Result := answer 0x15 s (bindRecipe payload s)

end Sys2Proof.Machine
end

