-- ==== Sys2Proof/Machine/Resets.lean ====
section
/-! DEFINITION. The three resets: power-on, the RESET pin and the cell reset (R202, R203, and the reset rules of each
chapter). -/

namespace Sys2Proof.Machine

/-! ## Power-on and the RESET pin (R21, R22, R52, R70, R97, R107, R123, R132, R144, R155, R168, R182, R194, R203) -/

/-- With the filter time at 0 an input is accepted at its raw level at once (R22). -/
def Inputs.acceptAll (i : Inputs) : Inputs :=
  ⟨i.guard.accept, i.heatPermit.accept, i.closedSw.accept, i.openSw.accept, i.loadedSw.accept, i.unloadedSw.accept,
    i.partFree0.accept, i.partFree1.accept⟩

/-- The working copy loaded from the highest-numbered written row, or unset with no row written (R132); `n` is the number
of the row before the list's first. -/
def loadCopy : Nat → List (Option CalRow) → WorkingCopy
  | _, [] => .unset
  | n, r :: rest =>
    if rest.any Option.isSome then loadCopy (n + 1) rest
    else match r with
      | some x => ⟨x.zero, some x.span, true, true, true, n + 1⟩
      | none => loadCopy (n + 1) rest

/-- The part after a power-on or a RESET pin reset with the given cause and straps. The calibration rows keep their
contents (R132), the raw inputs are outside the part (log 8), and the commands that wait go on waiting (log 1). -/
def restartPart (cause : RestartCause) (adr : BitVec 5) (rate : BitVec 2) (s : State) : State where
  pending := s.pending
  choice := s.choice
  time := 0
  link := ⟨.listen, [], adr, rate, none⟩
  restart := some ⟨cause, 0⟩
  recipes := .initial
  pressFilter := 0
  presses := ⟨.initial s.presses.p1.inputs.acceptAll, .initial s.presses.p2.inputs.acceptAll,
    .initial s.presses.p3.inputs.acceptAll, .initial s.presses.p4.inputs.acceptAll⟩
  feed := .initial
  weigh := .initial s.weigh.rows (loadCopy 0 s.weigh.rows)
    (if (loadCopy 0 s.weigh.rows).valid then .idle else .uncalibrated) s.weigh.tray.accept
  orders := []
  nextOrder := 0
  history := ⟨[], some 1⟩
  cellFaults := .initial
  events := .afterReset cause 0 []

/-- POWER_ON (R195, R203). -/
def execPowerOn (adr : BitVec 5) (rate : BitVec 2) (s : State) : Result := .next (restartPart .powerOn adr rate s)

/-- RESET_PIN (R195, R203). -/
def execResetPin (adr : BitVec 5) (rate : BitVec 2) (s : State) : Result := .next (restartPart .resetPin adr rate s)

/-! ## The cell reset (R202) -/

/-- Step 1: the order queue and the staging lists are emptied and the build discarded (R144, R155). -/
def resetCharges (s : State) : State :=
  { s with
    orders := []
    presses := ⟨{ s.presses.p1 with staging := ⟨[], []⟩ }, { s.presses.p2 with staging := ⟨[], []⟩ },
      { s.presses.p3 with staging := ⟨[], []⟩ }, { s.presses.p4 with staging := ⟨[], []⟩ }⟩
    weigh := { s.weigh with
      state := if s.weigh.copy.valid then .idle else .uncalibrated
      build := none, massWindow := [], averages := [] } }

/-- A zone after a cell reset: sensors kept, everything else cleared (R70, R97, R107, R123). -/
def Zone.afterCellReset (z : Zone) : Zone :=
  { z with
    mismatchRun := 0, agreeRun := 0, mismatch := false, spe := none, iacc := 0, demand := 0, hold := .stopped, hot := false
    feedLimited := false, request := 0, grant := 0, duty := 0, dose := 0, residue := 0 }

/-- The channels of a press after a cell reset, by the roles of its bound recipe (R168). -/
def State.resetChannels (s : State) (p : PressId) : Channels ChannelState :=
  match s.boundRecipe p with
  | some r => idleChannels r.eject
  | none => ⟨.unused, .unused, .unused, .unused⟩

/-- The duty 0 of every zone of a press, sent at once by a cell reset (R97). -/
def Press.quietDrive (pr : Press) : Press := { pr with drive := pr.drive ++ [.duties (pr.zones.mapIdx fun i _ => (i, 0))] }

/-- Step 2 for one press: the ejection and the cure end, the OPEN records close ABORTED, the binding point is passed with
heat mode OFF and every duty sent as 0, and a configured press is IDLE with everything quiet (R52, R97, R107, R118, R123,
R164, R168). The cavity items are cleared, by R168 and against the last sentence of R164 (log 49). -/
def resetPress (s : State) (p : PressId) : State :=
  if (s.press p).configured then
    let s1 := endCure p (s.updEject p Eject.halt)
    let s2 := closeRecords p true s1
    let s3 := bindingPoint p (s2.updPress p fun pr => pr.heatOff.quietDrive)
    s3.updPress p fun pr =>
      { pr with
        state := .idle, prior := none, readyRun := none, timers := Timers.none
        hostHeat := false, hostMotion := false, autoLoad := false, autoOrder := false, historyFull := false
        zones := pr.zones.map Zone.afterCellReset
        feedClass := .unclassed, shortfall := 0
        cure := .initial
        eject := ⟨s3.resetChannels p, ⟨.cleared, .cleared⟩⟩ }
  else s

/-- Step 3: proving runs in progress end ABORTED (R70, R78). -/
def resetRun (s : State) (p : PressId) : State := abortRun p s

/-- Step 6 for one press: the fault log and the active faults are emptied, the mask kept (R194). -/
def OwnerFaults.emptied (f : OwnerFaults) : OwnerFaults := { f with first := none, next := [], active := [] }

/-- The cell reset, in the order of R202. -/
def cellReset (s : State) : State :=
  let s1 := resetCharges s
  let s2 := allPresses.foldl resetPress s1
  let s3 := allPresses.foldl resetRun s2
  { s3 with
    recipes := ⟨s3.recipes.slots.map Slot.discard, none⟩
    feed := { s3.feed with class1 := .zero, class2 := .zero, class3 := .zero }
    restart := some ⟨.cellReset, s.time⟩
    presses := ⟨{ s3.presses.p1 with faults := s3.presses.p1.faults.emptied },
      { s3.presses.p2 with faults := s3.presses.p2.faults.emptied },
      { s3.presses.p3 with faults := s3.presses.p3.faults.emptied },
      { s3.presses.p4 with faults := s3.presses.p4.faults.emptied }⟩
    cellFaults := s3.cellFaults.emptied
    events := .afterReset .cellReset s.time s3.events.disabled }

/-- CELL_RESET (R202). -/
def execCellReset (payload : Payload) (s : State) : Result := answer 0x04 s (noPayload payload (.ok [] (cellReset s)))

end Sys2Proof.Machine
end

