-- ==== Sys2Proof/Machine/Dispatch.lean ====
section
/-! DEFINITION. The dispatch: one arm per command, each a direct call of its meaning. -/

namespace Sys2Proof.Machine

def exec (i : Instr) (s : State) : Host.Outcome State Fault Refusal :=
  match i with
  | .powerOn adr rate => Sys2Proof.Machine.execPowerOn adr rate s
  | .resetPin adr rate => Sys2Proof.Machine.execResetPin adr rate s
  | .frameDiscarded items => Sys2Proof.Machine.execFrameDiscarded items s
  | .unknownRequestType t payload => Sys2Proof.Machine.execUnknownRequestType t payload s
  | .replyComplete => Sys2Proof.Machine.execReplyComplete s
  | .identify payload => Sys2Proof.Machine.execIdentify payload s
  | .getStatus payload => Sys2Proof.Machine.execGetStatus payload s
  | .cellConfig payload => Sys2Proof.Machine.execCellConfig payload s
  | .cellReset payload => Sys2Proof.Machine.execCellReset payload s
  | .getRestart payload => Sys2Proof.Machine.execGetRestart payload s
  | .clearRestart payload => Sys2Proof.Machine.execClearRestart payload s
  | .recipeBegin payload => Sys2Proof.Machine.execRecipeBegin payload s
  | .recipeSection payload => Sys2Proof.Machine.execRecipeSection payload s
  | .recipeAbandon payload => Sys2Proof.Machine.execRecipeAbandon payload s
  | .recipeDelete payload => Sys2Proof.Machine.execRecipeDelete payload s
  | .recipeList payload => Sys2Proof.Machine.execRecipeList payload s
  | .bindRecipe payload => Sys2Proof.Machine.execBindRecipe payload s
  | .pressConfig payload => Sys2Proof.Machine.execPressConfig payload s
  | .heatMode payload => Sys2Proof.Machine.execHeatMode payload s
  | .load payload => Sys2Proof.Machine.execLoad payload s
  | .resume payload => Sys2Proof.Machine.execResume payload s
  | .forceOpen payload => Sys2Proof.Machine.execForceOpen payload s
  | .abort payload => Sys2Proof.Machine.execAbort payload s
  | .heatHold payload => Sys2Proof.Machine.execHeatHold payload s
  | .motionHold payload => Sys2Proof.Machine.execMotionHold payload s
  | .auto payload => Sys2Proof.Machine.execAuto payload s
  | .pressStatus payload => Sys2Proof.Machine.execPressStatus payload s
  | .getMap payload => Sys2Proof.Machine.execGetMap payload s
  | .restoreSensor payload => Sys2Proof.Machine.execRestoreSensor payload s
  | .sensorStatus payload => Sys2Proof.Machine.execSensorStatus payload s
  | .proveStart payload => Sys2Proof.Machine.execProveStart payload s
  | .proveStop payload => Sys2Proof.Machine.execProveStop payload s
  | .proveStatus payload => Sys2Proof.Machine.execProveStatus payload s
  | .heatStatus payload => Sys2Proof.Machine.execHeatStatus payload s
  | .feedStatus payload => Sys2Proof.Machine.execFeedStatus payload s
  | .cureStatus payload => Sys2Proof.Machine.execCureStatus payload s
  | .calZero payload => Sys2Proof.Machine.execCalZero payload s
  | .calSpan payload => Sys2Proof.Machine.execCalSpan payload s
  | .calSet payload => Sys2Proof.Machine.execCalSet payload s
  | .calCommit payload => Sys2Proof.Machine.execCalCommit payload s
  | .calRowWritten => Sys2Proof.Machine.execCalRowWritten s
  | .weighStatus payload => Sys2Proof.Machine.execWeighStatus payload s
  | .chargeOrder payload => Sys2Proof.Machine.execChargeOrder payload s
  | .cancelOrder payload => Sys2Proof.Machine.execCancelOrder payload s
  | .getStaging payload => Sys2Proof.Machine.execGetStaging payload s
  | .ejectStatus payload => Sys2Proof.Machine.execEjectStatus payload s
  | .historyList payload => Sys2Proof.Machine.execHistoryList payload s
  | .historyRead payload => Sys2Proof.Machine.execHistoryRead payload s
  | .historyNext payload => Sys2Proof.Machine.execHistoryNext payload s
  | .historyRelease payload => Sys2Proof.Machine.execHistoryRelease payload s
  | .historyNote payload => Sys2Proof.Machine.execHistoryNote payload s
  | .setNextSerial payload => Sys2Proof.Machine.execSetNextSerial payload s
  | .clearFaults payload => Sys2Proof.Machine.execClearFaults payload s
  | .setFaultMask payload => Sys2Proof.Machine.execSetFaultMask payload s
  | .getFaults payload => Sys2Proof.Machine.execGetFaults payload s
  | .setEventMask payload => Sys2Proof.Machine.execSetEventMask payload s
  | .getEvents payload => Sys2Proof.Machine.execGetEvents payload s
  | .pressInputRawChange p input level => Sys2Proof.Machine.execPressInputRawChange p input level s
  | .pressInputAccepted p input => Sys2Proof.Machine.execPressInputAccepted p input s
  | .trayPresentRawChange level => Sys2Proof.Machine.execTrayPresentRawChange level s
  | .trayPresentAccepted => Sys2Proof.Machine.execTrayPresentAccepted s
  | .scanMarker p => Sys2Proof.Machine.execScanMarker p s
  | .temperatureReading p r => Sys2Proof.Machine.execTemperatureReading p r s
  | .overdueExpiry p => Sys2Proof.Machine.execOverdueExpiry p s
  | .readyDwellReached p => Sys2Proof.Machine.execReadyDwellReached p s
  | .timeoutTimerExpiry p timer => Sys2Proof.Machine.execTimeoutTimerExpiry p timer s
  | .controlTick p => Sys2Proof.Machine.execControlTick p s
  | .blindHoldExpiry p zone => Sys2Proof.Machine.execBlindHoldExpiry p zone s
  | .allocationRound => Sys2Proof.Machine.execAllocationRound s
  | .cureTick p => Sys2Proof.Machine.execCureTick p s
  | .cureTimerExpiry p => Sys2Proof.Machine.execCureTimerExpiry p s
  | .followerDelayEnd p ch => Sys2Proof.Machine.execFollowerDelayEnd p ch s
  | .strokeEnd p ch => Sys2Proof.Machine.execStrokeEnd p ch s
  | .attemptTimerExpiry p c => Sys2Proof.Machine.execAttemptTimerExpiry p c s
  | .scaleSample x => Sys2Proof.Machine.execScaleSample x s
  | .sampleTimerExpiry => Sys2Proof.Machine.execSampleTimerExpiry s
  | .chargeExpiry p c => Sys2Proof.Machine.execChargeExpiry p c s

end Sys2Proof.Machine
end

