-- ==== Sys2Proof/Machine/Clock.lean ====
section
/-! DEFINITION. Cell time: the passing of one millisecond, and the time-driven commands that are due (00 section 5.7).
Where several are due at one moment the spec allows every order, so one of them is chosen freely (log 2). -/

namespace Sys2Proof.Machine

/-! ## One millisecond -/

/-- A countdown that stays absent when it is absent. -/
def countdown (t : Option Nat) : Option Nat := t.map (· - 1)

/-- A raw level has been stable for 1 ms more, counted up to the longest filter time (R22). -/
def Filtered.age (f : Filtered) : Filtered := { f with stable := min 100 (f.stable + 1) }

def Inputs.age (i : Inputs) : Inputs :=
  ⟨i.guard.age, i.heatPermit.age, i.closedSw.age, i.openSw.age, i.loadedSw.age, i.unloadedSw.age, i.partFree0.age,
    i.partFree1.age⟩

/-- The timeout timers whose running condition holds count down; the others wait (R28). -/
def Press.ageTimers (pr : Press) : Timers where
  loadT := if pr.timerRuns .loadT then countdown pr.timers.loadT else pr.timers.loadT
  closeT := if pr.timerRuns .closeT then countdown pr.timers.closeT else pr.timers.closeT
  openT := if pr.timerRuns .openT then countdown pr.timers.openT else pr.timers.openT
  clearT := if pr.timerRuns .clearT then countdown pr.timers.clearT else pr.timers.clearT

/-- A running blind hold counts down in every press state (R90). -/
def BlindHold.age : BlindHold → BlindHold
  | .running n => .running (n - 1)
  | h => h

def CureTimer.age : CureTimer → CureTimer
  | .running n => .running (n - 1)
  | t => t

/-- The cure ticks and the cure timer run while the cure is RUNNING (R109, R117). -/
def Cure.age (c : Cure) : Cure :=
  if c.state = .running then { c with timer := c.timer.age, nextTick := countdown c.nextTick } else c

def ChannelState.age : ChannelState → ChannelState
  | .delaying n => .delaying (n - 1)
  | .stroking n f => .stroking (n - 1) f
  | st => st

def EjectCavity.age (k : EjectCavity) : EjectCavity := { k with timer := countdown k.timer }

/-- Strokes, delays and attempt timers run in EJECTING (R158, R160). -/
def Eject.age (e : Eject) : Eject :=
  ⟨⟨e.channels.ch0.age, e.channels.ch1.age, e.channels.ch2.age, e.channels.ch3.age⟩, ⟨e.cavities.c0.age, e.cavities.c1.age⟩⟩

def Press.age (pr : Press) : Press :=
  { pr with
    inputs := pr.inputs.age
    readyRun := pr.readyRun.map (· + 1)
    timers := pr.ageTimers
    overdue := countdown pr.overdue
    nextTick := countdown pr.nextTick
    zones := pr.zones.map fun z => { z with hold := z.hold.age }
    cure := pr.cure.age
    eject := if pr.state = .ejecting then pr.eject.age else pr.eject }

/-- One millisecond passes: cell time advances, wrapping, and every timer that runs counts it (00 section 5.7). -/
def advance (s : State) : State :=
  { s with
    time := s.time + 1
    presses := ⟨s.presses.p1.age, s.presses.p2.age, s.presses.p3.age, s.presses.p4.age⟩
    feed := { s.feed with nextRound := s.feed.nextRound - 1 }
    weigh := { s.weigh with tray := s.weigh.tray.age, sampleTimer := s.weigh.sampleTimer - 1 } }

/-! ## What is due -/

/-- A command in a list when a condition holds. -/
def given (c : Bool) (i : Instr) : List Instr := if c then [i] else []

/-- The time-driven commands of a press that are due. -/
def pressDue (s : State) (p : PressId) : List Instr :=
  (allInputs.filter (s.inputDue p)).map (Instr.pressInputAccepted p)
    ++ given (s.overdueDue p) (.overdueExpiry p)
    ++ given (s.dwellDue p) (.readyDwellReached p)
    ++ (allTimers.filter (s.timeoutDue p)).map (Instr.timeoutTimerExpiry p)
    ++ given (s.tickDue p) (.controlTick p)
    ++ ((List.range (s.press p).zoneCount).filter (s.holdDue p)).map (Instr.blindHoldExpiry p)
    ++ given (s.cureTickDue p) (.cureTick p)
    ++ given (s.cureTimerDue p) (.cureTimerExpiry p)
    ++ (allChannels.filter (s.delayDue p)).map (Instr.followerDelayEnd p)
    ++ (allChannels.filter (s.strokeDue p)).map (Instr.strokeEnd p)
    ++ ([Cavity.c0, .c1].filter (s.attemptDue p)).map (Instr.attemptTimerExpiry p)
    ++ ([Cavity.c0, .c1].filter (s.expiryDue p)).map (Instr.chargeExpiry p)

/-- Every time-driven command that is due. -/
def dueEvents (s : State) : List Instr :=
  given s.roundDue .allocationRound ++ given s.sampleDue .sampleTimerExpiry
    ++ given (s.weigh.tray.due s.weigh.filter) .trayPresentAccepted ++ allPresses.flatMap (pressDue s)

/-- What the part does while no command waits: one of the time-driven commands that are due joins the queue, chosen
freely; with none due, 1 ms passes (log 1, log 2). -/
def idle (s : State) : State :=
  match pickOne (dueEvents s) s.choice with
  | some i => { s with pending := [i], choice := s.choice + 1 }
  | none => advance s

end Sys2Proof.Machine
end

