-- ==== Sys2Proof/Safety.lean ====
section
/-! DEFINITION. What the spec promises of every state the part can be in: the sentences in bold of the chapters, as
predicates of a state. -/

namespace Sys2Proof.Machine

/-- The event queue never holds more than 64 entries (R190). -/
def State.EventsBounded (s : State) : Prop := s.events.queue.length ≤ 64

/-- For a press and cavity, the staged charges plus the queued orders come to no more than 2 (R153). -/
def State.SupplyBounded (s : State) : Prop := ∀ p c, s.supply p c ≤ 2

/-- The build of an attempt in hand serves an order of the queue, for the order's press and cavity (R134, R141). -/
def State.BuildServed (s : State) : Prop :=
  ∀ b, s.weigh.build = some b →
    ∃ o ∈ s.orders, o.number = b.order ∧ o.press = b.press ∧ o.cavity = b.cavity

/-- Every staged charge stands in the list of its own press and cavity (R138, R148). -/
def State.StagedInPlace (s : State) : Prop :=
  ∀ p c, ∀ ch ∈ (s.press p).staging.get c, ch.press = p ∧ ch.cavity = c

/-- A build is in hand exactly in the build states, TARING to PLY_REJECTED (07 section 7.4, R134, R139). -/
def State.BuildInBuildStates (s : State) : Prop := s.weigh.build.isSome = s.weigh.state.isBuild

/-- The part serials in the log increase, and lie below the serial the next record takes (R171). -/
def State.SerialsOrdered (s : State) : Prop :=
  (s.history.records.map fun r => r.serial).Pairwise (· < ·) ∧
    match s.history.counter with
    | some n => ∀ r ∈ s.history.records, r.serial < n
    | none => True

/-- The log holds at most 512 records (R169). -/
def State.LogBounded (s : State) : Prop := s.history.records.length ≤ 512

/-- The sum of the grants of the latest round does not exceed the feed limit in force at that round (R101). -/
def Feed.WithinLimit (f : Feed) : Prop := f.class1.granted + f.class2.granted + f.class3.granted ≤ f.inForce

/-- A press holds a prior state exactly while it is HELD (02 opening list, R40, R42). -/
def Press.PriorMatches (pr : Press) : Prop := pr.prior.isSome = (pr.state == .held)

/-- No OPEN record belongs to a press outside LOADING to CLEARING and HELD from these (R169). -/
def State.OpenOnlyInCycle (s : State) : Prop :=
  ∀ r ∈ s.history.records, r.close = none →
    (s.press r.press).state.inCycle = true ∨
      ((s.press r.press).state = .held ∧ (s.press r.press).prior.any PressState.inCycle = true)

/-- Where a press stands in its work: its state, or the state it is held from (02 section 2.5). -/
def Press.phase (pr : Press) : PressState := if pr.state = .held then pr.prior.getD .held else pr.state

/-- The id of the recipe in a slot, LOADING or VALID. -/
def Slot.id? : Slot → Option Nat
  | .empty => none
  | .loading h _ => some h.id
  | .valid r => some r.header.id

/-- No two slots hold the same recipe id (R3, R5, R6). -/
def State.SlotIdsDistinct (s : State) : Prop := (s.recipes.slots.filterMap Slot.id?).Nodup

/-- A press holds OPEN records, one per cavity of its bound recipe in cavity order, exactly while it is in LOADING to
CLEARING or HELD from one of these (R169). -/
def State.OpenExactlyInCycle (s : State) : Prop :=
  ∀ p, ((s.press p).phase.inCycle = true → (s.boundRecipe p).isSome = true ∧
      (s.openRecords p).map (fun r => r.cavity) = s.cavities p) ∧
    ((s.press p).phase.inCycle = false → s.openRecords p = [])

/-- A record closed GOOD or SUSPECT has a cure summary with a completion offset: its cavity was cure-complete (R176). -/
def PartRecord.VerdictSound (r : PartRecord) : Prop :=
  ∀ x, r.close = some x → x.disposition = .good ∨ x.disposition = .suspect →
    ∃ cs, r.cure = some cs ∧ cs.offset.isSome = true ∧ cs.undercured = false

/-- What makes the verdicts of R176 sound: a cure runs only in CURING and HELD from CURING; while it may run the OPEN records
follow the completion and the undercured mark of their cavity; from OPENING on each of them has the one or the other. -/
def State.VerdictsSound (s : State) : Prop :=
  (∀ p, (s.press p).cure.state = .running → (s.press p).phase = .curing ∧ (s.press p).cure.closedTime.isSome = true) ∧
  ∀ r ∈ s.history.records, r.VerdictSound ∧ (r.close = none → r.cavity ∈ s.cavities r.press ∧
    ((s.press r.press).phase = .curing → ∃ cs, r.cure = some cs ∧ cs.finished = false ∧ cs.noCure = false ∧
      cs.offset = ((s.press r.press).cure.cavities.get r.cavity).offset ∧
      cs.undercured = ((s.press r.press).cure.cavities.get r.cavity).undercured ∧
      (((s.press r.press).cure.cavities.get r.cavity).complete = true →
        ((s.press r.press).cure.cavities.get r.cavity).offset.isSome = true)) ∧
    ((s.press r.press).phase = .opening ∨ (s.press r.press).phase = .ejecting ∨ (s.press r.press).phase = .clearing →
      ∃ cs, r.cure = some cs ∧ (cs.offset.isSome = true ∨ cs.undercured = true)))

/-- The boards of a press hold the drive duty of each of its zones, and 0 where the grid has no zone: every change of a
drive duty has been sent (R93, R94). A grid has at most 24 zones (R53). -/
def Press.BoardsFollow (pr : Press) : Prop :=
  pr.zones.length ≤ 24 ∧ ∀ i, heldDuty pr.drive i = ((pr.zones[i]?).map pr.driveDuty).getD 0

end Sys2Proof.Machine
end

