-- ==== Sys2Proof/WellFormed.lean ====
section
/-! DEFINITION. Which operands a command can carry: the ranges that the spec gives what arrives on the line, on the
streams and at the timers. -/

namespace Sys2Proof

/-- A frame carries at most 248 payload bytes (R197). -/
def payloadFits (payload : Payload) : Bool := payload.length ≤ 248

/-- A value on a temperature stream is a signed temperature of two bytes (R57, R205). -/
def StreamReading.fits : StreamReading → Bool
  | .value t => -32768 ≤ t && t ≤ 32767
  | .openCode | .errCode | .corrupted => true

/-- A raw count is signed 24-bit (R124). -/
def ScaleSample.fits : ScaleSample → Bool
  | .raw n => -8388608 ≤ n && n ≤ 8388607
  | .errCode | .corrupted => true

/-- The zones of the largest grid are numbered 0 to 23 (R53). -/
def zoneFits (zone : Nat) : Bool := zone < 24

/-- Well-formed commands. -/
def Instr.wf : Instr → Bool
  | .powerOn _ _ | .resetPin _ _ => true
  | .frameDiscarded items => !items.isEmpty
  | .unknownRequestType t payload => payloadFits payload && (requestOf t payload).isNone
  | .replyComplete | .calRowWritten => true
  | .identify payload | .getStatus payload | .cellConfig payload | .cellReset payload | .getRestart payload
  | .clearRestart payload | .recipeBegin payload | .recipeSection payload | .recipeAbandon payload | .recipeDelete payload
  | .recipeList payload | .bindRecipe payload | .pressConfig payload | .heatMode payload | .load payload | .resume payload
  | .forceOpen payload | .abort payload | .heatHold payload | .motionHold payload | .auto payload | .pressStatus payload
  | .getMap payload | .restoreSensor payload | .sensorStatus payload | .proveStart payload | .proveStop payload
  | .proveStatus payload | .heatStatus payload | .feedStatus payload | .cureStatus payload | .calZero payload
  | .calSpan payload | .calSet payload | .calCommit payload | .weighStatus payload | .chargeOrder payload
  | .cancelOrder payload | .getStaging payload | .ejectStatus payload | .historyList payload | .historyRead payload
  | .historyNext payload | .historyRelease payload | .historyNote payload | .setNextSerial payload | .clearFaults payload
  | .setFaultMask payload | .getFaults payload | .setEventMask payload | .getEvents payload => payloadFits payload
  | .pressInputRawChange _ _ _ | .pressInputAccepted _ _ | .trayPresentRawChange _ | .trayPresentAccepted | .scanMarker _ => true
  | .temperatureReading _ r => r.fits
  | .overdueExpiry _ | .readyDwellReached _ | .timeoutTimerExpiry _ _ | .controlTick _ => true
  | .blindHoldExpiry _ zone => zoneFits zone
  | .allocationRound | .cureTick _ | .cureTimerExpiry _ | .followerDelayEnd _ _ | .strokeEnd _ _ | .attemptTimerExpiry _ _ => true
  | .scaleSample x => x.fits
  | .sampleTimerExpiry | .chargeExpiry _ _ => true

end Sys2Proof
end

