-- ==== Sys2Proof/Certificates/Slice0/Obligations.lean ====
section
/-! DEFINITION. The statements for the provers, with the words they are written in: the byte of a press, an accepted or
refused reply, and the changes that several statements name. -/

namespace Sys2Proof.Machine

/-! ## The words of the statements -/

/-- The byte of a press number (00_scope 5.2, R205). -/
def pressByte (p : PressId) : Byte := BitVec.ofNat 8 (pressCode p)

/-- The state `s` with the port replying OK and the given fields to a request of type `type` (R198). -/
def okReply (type : Byte) (fields : Payload) (s : State) : State := sendReply type (0 :: fields) s

/-- The state `s` with the port replying with a refusal code and its detail byte (R198). -/
def refusal (type : Byte) (code detail : Byte) (s : State) : State := sendReply type [code, detail] s

/-- The part outside the port is the same in two states. -/
def State.sameButPort (s t : State) : Prop := { t with link := s.link } = s

/-- Everything but press `p`, the port, the event queue and the log is the same in two states. -/
def State.sameOutside (p : PressId) (s t : State) : Prop :=
  (∀ q, q ≠ p → t.press q = s.press q) ∧ t.pending = s.pending ∧ t.choice = s.choice ∧ t.time = s.time ∧ t.restart = s.restart
    ∧ t.recipes = s.recipes ∧ t.pressFilter = s.pressFilter ∧ t.feed = s.feed ∧ t.weigh = s.weigh ∧ t.orders = s.orders
    ∧ t.nextOrder = s.nextOrder ∧ t.cellFaults = s.cellFaults

/-- PRESS_STATE of a press for a state it enters other than HELD (R51). -/
def queueEntry (p : PressId) (st : PressState) (s : State) : State :=
  queueEvent .pressState (some p) (.pressState st none) none s

/-- What every entry to a state other than HELD sets in a press (R28, R42). -/
def Press.entered (st : PressState) (timers : Timers) (pr : Press) : Press :=
  { pr with state := st, prior := none, timers := timers, readyRun := none }

/-- No auto-load of a press follows: its flag is off. -/
def State.autoLoadOff (s : State) (p : PressId) : Prop := (s.press p).autoLoad = false

/-- The items of a line that carry bytes in time and well framed (R197). -/
def lineOf (bytes : Payload) : List LineItem := bytes.map fun b => ⟨b, false, false⟩

/-- A press after a power-on or a RESET pin reset: UNCONFIGURED and quiet, every item at its reset value, each accepted level
the raw level, and a duty of 0 sent for all 24 zone positions (R22, R23, R52, R70, R94, R97, R107, R123, R155, R168, R194). -/
def Press.restarted (before pr : Press) : Prop :=
  pr.state = .unconfigured ∧ pr.heatMode = .off ∧ pr.config = none ∧ pr.bound = none ∧ pr.pendingBinding = none ∧
  pr.prior = none ∧ pr.faults = ⟨none, [], [], []⟩ ∧ pr.zones = [] ∧ pr.staging = ⟨[], []⟩ ∧
  (∀ k, pr.level k = (before.inputs.get k).raw) ∧
  pr.hostHeat = false ∧ pr.hostMotion = false ∧ pr.autoLoad = false ∧ pr.autoOrder = false ∧ pr.historyFull = false ∧
  pr.timers = ⟨none, none, none, none⟩ ∧ pr.readyRun = none ∧
  pr.loadCmd = false ∧ pr.closeCmd = false ∧ pr.openCmd = false ∧ (∀ ch, pr.ejectOut ch = false ∧ pr.forceCode ch = 1) ∧
  pr.streamPos = none ∧ pr.overdue = none ∧ pr.nextTick = none ∧
  pr.run.state = .idle ∧ pr.run.selection = [] ∧ pr.run.first = none ∧ pr.run.last = none ∧ pr.run.failing = [] ∧
  pr.run.loopsDone = 0 ∧ pr.run.command = none ∧ pr.run.discard = [] ∧
  pr.feedClass = .unclassed ∧ pr.shortfall = 0 ∧
  pr.cure.state = .none ∧ pr.cure.timer = .stopped ∧ pr.cure.closedTime = none ∧ pr.cure.ticks = 0 ∧ pr.cure.nextTick = none ∧
  (∀ c, pr.cure.cavities.get c = ⟨false, none, 0, none, [], false, false⟩) ∧
  (∀ ch, pr.eject.channels.get ch = .unused) ∧
  (∀ c, pr.eject.cavities.get c = ⟨.inactive, 0, 0, none, none, 0, 0, none, none, false⟩) ∧
  ∃ es, pr.drive = [.duties es] ∧ es.length = 24 ∧ ∀ i, i < 24 → es[i]? = some (i, 0)

/-- The state after a power-on or a RESET pin reset (R21, R22, R52, R107, R132, R144, R155, R182, R194, R195, R203). -/
def State.restartedFrom (s : State) (cause : RestartCause) (adr : BitVec 5) (rate : BitVec 2) (t : State) : Prop :=
  t.time = 0 ∧ t.link = ⟨.listen, [], adr, rate, none⟩ ∧ t.restart = some ⟨cause, 0⟩ ∧
  t.events.queue = [⟨.restart, none, .cause cause, none, 0⟩] ∧ t.events.overflow = false ∧ t.events.disabled = [] ∧
  t.recipes = ⟨List.replicate 8 .empty, none⟩ ∧ t.orders = [] ∧ t.nextOrder = 0 ∧ t.history = ⟨[], some 1⟩ ∧
  t.cellFaults = ⟨none, [], [], []⟩ ∧ t.feed.configured = 0 ∧ t.feed.inForce = 0 ∧ t.feed.lastRound = none ∧
  t.feed.class1 = ⟨0, 0, 0, false⟩ ∧ t.feed.class2 = ⟨0, 0, 0, false⟩ ∧ t.feed.class3 = ⟨0, 0, 0, false⟩ ∧
  t.pressFilter = 0 ∧
  t.weigh.rows = s.weigh.rows ∧ t.weigh.writing = none ∧ t.weigh.build = none ∧ t.weigh.nextCharge = 1 ∧
  t.weigh.rawWindow = [] ∧ t.weigh.massWindow = [] ∧ t.weigh.averages = [] ∧ t.weigh.errors = 0 ∧ t.weigh.sampleTimer = 30 ∧
  t.weigh.params = ⟨4, 10, 10, 20000⟩ ∧ t.weigh.used = ⟨4, 10, 10, 20000⟩ ∧ t.weigh.filter = 0 ∧
  t.weigh.tray.accepted = s.weigh.tray.raw ∧
  ((∀ r ∈ s.weigh.rows, r = none) → t.weigh.state = .uncalibrated ∧ t.weigh.copy = ⟨0, none, false, false, false, 0⟩) ∧
  (∀ (front back : List (Option CalRow)) (x : CalRow), s.weigh.rows = front ++ some x :: back → (∀ r ∈ back, r = none) →
    t.weigh.state = .idle ∧ t.weigh.copy = ⟨x.zero, some x.span, true, true, true, front.length + 1⟩) ∧
  ∀ p, (s.press p).restarted (t.press p)

/-- The byte of a cavity number, an ejector channel's cavity or a platen (R204, R205). -/
def cavityByte (c : Cavity) : Byte := BitVec.ofNat 8 (cavityCode c)

def platenByte : Platen → Byte
  | .top => 0
  | .bottom => 1

def positionByte : Position → Byte
  | .primary => 0
  | .spare => 1

/-- The byte of a fault owner: CELL is 0 (R187, R205). -/
def ownerByte : Owner → Byte
  | .cell => 0
  | .press p => pressByte p

/-- The press that an event of an owner's fault names (R184). -/
def ownerPress : Owner → Option PressId
  | .cell => none
  | .press p => some p

/-- The payload that carries a press configuration: 20 + 6 × R × C bytes (R24, R199, R205). -/
def configPayload (p : PressId) (c : PressConfig) (entries : List ZoneEntry) : Payload :=
  [pressByte p] ++ u8 c.rows ++ u8 c.cols ++ (entries.flatMap fun e => u16 e.rated ++ flags [e.primary, e.spare])
    ++ u16 c.kp.toNat ++ u16 c.ki.toNat ++ u8 c.mismatchBand.toNat ++ u16 c.holdLimit ++ u16 c.overtemp.toNat
    ++ u16 c.standby.toNat ++ u16 c.loadTimeout ++ u8 c.closeTimeout ++ u8 c.openTimeout ++ u16 c.clearTimeout

/-- A configuration within the ranges of R24's table. -/
def PressConfig.inRanges (c : PressConfig) (entries : List ZoneEntry) : Prop :=
  1 ≤ c.rows ∧ c.rows ≤ 3 ∧ 1 ≤ c.cols ∧ c.cols ≤ 4 ∧ entries.length = 2 * c.rows * c.cols ∧
  (∀ e ∈ entries, e.rated ≤ 2000 ∧ (e.primary = true ∨ e.spare = true)) ∧
  0 ≤ c.kp ∧ c.kp ≤ 1023 ∧ 0 ≤ c.ki ∧ c.ki ≤ 1023 ∧ 10 ≤ c.mismatchBand ∧ c.mismatchBand ≤ 200 ∧ c.holdLimit ≤ 600 ∧
  50 ≤ c.overtemp ∧ c.overtemp ≤ 500 ∧ 0 ≤ c.standby ∧ c.standby ≤ 2000 ∧ 30 ≤ c.loadTimeout ∧ c.loadTimeout ≤ 600 ∧
  1 ≤ c.closeTimeout ∧ c.closeTimeout ≤ 60 ∧ 1 ≤ c.openTimeout ∧ c.openTimeout ≤ 60 ∧ 5 ≤ c.clearTimeout ∧ c.clearTimeout ≤ 600

/-- A zone that a new grid brings: sensors DOUBTFUL with no last good reading where fitted, ABSENT elsewhere, every count
and control item at 0 (R69, R95, R98, R123). -/
def Zone.brandNew (e : ZoneEntry) (z : Zone) : Prop :=
  z.rated = e.rated ∧ z.primaryFitted = e.primary ∧ z.spareFitted = e.spare ∧
  z.primary = (if e.primary then ⟨.doubtful, none, 0⟩ else ⟨.absent, none, 0⟩) ∧
  z.spare = (if e.spare then ⟨.doubtful, none, 0⟩ else ⟨.absent, none, 0⟩) ∧
  z.mismatch = false ∧ z.iacc = 0 ∧ z.demand = 0 ∧ z.hold = .stopped ∧ z.hot = false ∧ z.feedLimited = false ∧
  z.request = 0 ∧ z.grant = 0 ∧ z.duty = 0 ∧ z.dose = 0 ∧ z.residue = 0

/-- The zones of a press after its heat mode becomes OFF (R82, R90). -/
def heatOffZones (zs : List Zone) : List Zone := zs.map fun z => { z with spe := none, hold := .stopped }

/-- The zones of a press after its heat mode becomes STANDBY (R82). -/
def standbyZones (c : Option PressConfig) (zs : List Zone) : List Zone :=
  zs.map fun z => { z with spe := c.map fun x => x.standby }

/-- A STOP fault of this code and qualifier is active (R185). -/
def Press.hasFault (pr : Press) (c : FaultCode) (q : Qualifier) : Prop := ∃ a ∈ pr.faults.active, a.code = c ∧ a.qual = q

/-- The payload that carries the start of a proving run (R72, R199). -/
def provePayload (p : PressId) (pairs : List SensorPos) (pattern : List Nat) (tolerance loops : Nat)
    (continuous stopOnError : Bool) : Payload :=
  [pressByte p] ++ (pairs.flatMap fun k => u8 k.zone ++ [positionByte k.position]) ++ pattern.flatMap u16
    ++ u8 tolerance ++ u16 loops ++ flags [continuous, stopOnError]

/-- The sensors that the end of a run leaves at the selected positions: FAILED for the failing set, else DOUBTFUL (R77). -/
def sensorsJudged (selection failing : List SensorPos) (before after : Press) : Prop :=
  ∀ k ∈ selection, k.zone < before.zoneCount →
    after.sensorAt k = (if k ∈ failing then ⟨.failed, none, 3⟩ else ⟨.doubtful, none, 0⟩)

/-- What a finishing makes of a cure summary of cavity `c` (R121): the least dose of the footprint with the first zone that
holds it, and the duration to the moment; neither in the no-cure form; nothing where it is finished already. -/
def CureSummary.finishedIn (s : State) (p : PressId) (c : Cavity) (cs cs' : CureSummary) : Prop :=
  (cs.finished = true → cs' = cs) ∧
  (cs.finished = false → cs.noCure = true → cs' = { cs with finished := true }) ∧
  (cs.finished = false → cs.noCure = false →
    cs' = { cs with
      finished := true, lowest := cs'.lowest, duration := cs.closedTime.map fun x => (s.time - x).toNat } ∧
    (cs'.lowest = none → ∀ i ∈ s.footprint p c, (s.press p).zones[i]? = none) ∧
    ∀ d i, cs'.lowest = some (d, i) → ∃ front back z, s.footprint p c = front ++ i :: back ∧
      (s.press p).zones[i]? = some z ∧ z.dose = d ∧
      (∀ j ∈ front, ∀ y, (s.press p).zones[j]? = some y → d < y.dose) ∧
      ∀ j ∈ back, ∀ y, (s.press p).zones[j]? = some y → d ≤ y.dose)

/-- The reasons of a record at its close (R176). -/
def PartRecord.hasReasons (s : State) (r : PartRecord) (x : Reasons) : Prop :=
  (x.excursion = true ↔ ∃ cs rec, r.cure = some cs ∧ s.recipes.find r.recipe.id = some rec ∧ rec.cure.allowance < cs.excursion) ∧
  (x.blindZone = true ↔ ∃ cs, r.cure = some cs ∧ cs.blind = true) ∧
  (x.hardRelease = true ↔ ∃ d, r.demould = some d ∧ 3 ≤ d.totalAttempts) ∧
  x.stopped = r.stopMark ∧ x.feedShort = r.feedShortMark

/-- What a close makes of an OPEN record (R175, R176): its cure summary finished, its reasons and its disposition decided, the
closed time set, the read flag clear, and everything else kept. -/
def PartRecord.closesTo (s : State) (aborted : Bool) (r r' : PartRecord) : Prop :=
  (∀ cs, r.cure = some cs → ∃ cs', r'.cure = some cs' ∧ cs.finishedIn s r.press r.cavity cs') ∧
  (r.cure = none → r'.cure = none) ∧
  r' = { r with cure := r'.cure, readFlag := false, close := r'.close } ∧
  ∃ x d, r.hasReasons s x ∧ r'.close = some ⟨d, x, s.time⟩ ∧
    (aborted = true → d = .aborted) ∧
    (aborted = false → (∃ cs, r.cure = some cs ∧ cs.undercured = true) → d = .undercured) ∧
    (aborted = false → (∀ cs, r.cure = some cs → cs.undercured = false) →
      (x = ⟨false, false, false, false, false⟩ → d = .good) ∧ (x ≠ ⟨false, false, false, false, false⟩ → d = .suspect))

/-- The OPEN records of a press close between two states, every other record of the first is kept, and their PART_CLOSED are
queued in serial order behind what the queue held, where none of them is masked or dropped (R175). -/
def State.closesRecords (s : State) (p : PressId) (aborted : Bool) (t : State) : Prop :=
  (∀ (i : Nat) (r r' : PartRecord), s.history.records[i]? = some r → t.history.records[i]? = some r' →
    (r.close = none ∧ r.press = p → r.closesTo s aborted r') ∧ (¬(r.close = none ∧ r.press = p) → r' = r)) ∧
  s.history.records.length ≤ t.history.records.length ∧
  (.partClosed ∉ s.events.disabled → s.events.queue.length + (s.openRecords p).length ≤ 64 →
    s.events.queue ++ ((s.history.records.zip t.history.records).filterMap fun x =>
      if x.1.close = none ∧ x.1.press = p then
        x.2.close.map fun k => (⟨.partClosed, some p, .disposition k.disposition, some x.1.serial, s.time⟩ : Event)
      else none) <+: t.events.queue)

/-- A counted failure of the attempt of a build: its order has one more attempt, and at three it leaves the queue with
ORDER_FAILED (R139). -/
def Build.counted (b : Build) (s : State) (orders : List Order) (events : EventUnit) : Prop :=
  ∀ front o back, s.orders = front ++ o :: back → o.number = b.order → (∀ x ∈ front ++ back, x.number ≠ b.order) →
    (o.attempts < 2 → orders = front ++ { o with attempts := o.attempts + 1 } :: back ∧ events = s.events) ∧
    (2 ≤ o.attempts → orders = front ++ back ∧
      events = (queueEvent .orderFailed (some b.press) (.order b.cavity b.order) none s).events)

/-- The demould summary that is equal to the items of an ejection cavity (R166). -/
def EjectCavity.summary (k : EjectCavity) : Demould where
  totalAttempts := k.totalAttempts
  releaseTime := k.releaseTime
  totalStrokes := k.totalStrokes
  finalForce := k.finalForce
  stuck := k.stuck

/-- Each OPEN record of a press gets a demould summary, equal to the items that the ejection has at the end, and nothing else of it
changes (R166). -/
def State.demouldCreated (s : State) (p : PressId) (t : State) : Prop :=
  t.history.records.length = s.history.records.length ∧
  ∀ (i : Nat) (x x' : PartRecord), s.history.records[i]? = some x → t.history.records[i]? = some x' → x.press = p → x.close = none →
    x' = { x with demould := some ((t.press p).eject.cavities.get x.cavity).summary }

/-- The demould summary of each OPEN record of a press follows the items of its ejection (R166). -/
def State.demouldFollows (s : State) (p : PressId) (t : State) : Prop :=
  s.history.records.length ≤ t.history.records.length ∧
  ∀ (i : Nat) (x x' : PartRecord), s.history.records[i]? = some x → t.history.records[i]? = some x' → x.press = p → x.close = none →
    x.demould.isSome = true → x'.demould = some ((t.press p).eject.cavities.get x.cavity).summary

/-- The station where orders were appended: an order appended to an empty queue starts its attempt in IDLE with the tray present,
and no other order changes the station (R134, R146). -/
def State.attemptStarts (s : State) (new : List Order) (weigh : Weigh) : Prop :=
  (s.weigh.state ≠ .idle ∨ s.weigh.tray.accepted = false → weigh = s.weigh) ∧
  ∀ o, s.orders = [] → new.head? = some o → s.weigh.state = .idle → s.weigh.tray.accepted = true →
    weigh = { s.weigh with
      state := .taring, averages := []
      build := some ⟨o.number, o.press, o.cavity, o.recipe, o.attempts + 1, none, none, 1, 0, []⟩ }

/-- The items of a sensor read by position, kept equal between two states of a press. -/
def sensorsKept (but : SensorPos → Prop) (a b : Press) : Prop := ∀ k, ¬ but k → b.sensorAt k = a.sensorAt k

/-- Every zone of a press has a value within the ready band of its recipe setpoint (R29). -/
def HeatSection.inBand (h : HeatSection) (pr : Press) : Prop :=
  ∀ (i : Nat) (z : Zone), pr.zones[i]? = some z → ∃ v sp : Int, z.value = some v ∧ h.setpoints[i]? = some sp ∧
    sp - h.readyBand ≤ v ∧ v ≤ sp + h.readyBand

/-- The entry is the newest of the queue, or the queue was full and dropped it with the overflow flag set (R190). -/
def EventUnit.endsWith (e : EventUnit) (x : Event) : Prop :=
  e.queue.getLast? = some x ∨ (64 ≤ e.queue.length ∧ e.overflow = true)

/-- A reading at this position is judged: the position is fitted, its readings are not discarded after a proving run, and its sensor
is OK or DOUBTFUL (R58, R62, R77). MODEL'S CHOICE (log 20): the discard of R77 step 6 is kept per position and takes in the ERR
readings that a marker or an overdue expiry gives. -/
def Press.takesReading (pr : Press) (k : SensorPos) : Prop :=
  pr.fittedAt k = true ∧ (∀ d ∈ pr.run.discard, d.1 ≠ k) ∧
    ((pr.sensorAt k).state = .ok ∨ (pr.sensorAt k).state = .doubtful)

/-- A time-driven command falls due. An input's raw level that differs from the accepted one has been stable for the filter time
(R22, R133); the overdue timer of a configured press is at 0 (R60); a ready run in PREHEAT has reached the dwell (R29); a timeout
timer that runs is at 0 (R28); the control tick (R80) or the allocation round (R98) is at 0; a running blind hold is at 0 (R91); the
cure tick (R109) or the cure timer (R117) of a RUNNING cure is at 0; in EJECTING a delay (R158), a stroke (R158) or the attempt timer
of an ATTEMPTING cavity (R161) is at 0, where a delay gives way to its cavity's attempt timer (R161); the sample timer is at 0 (R126);
the time since a staged charge was weighed has reached that to its expiry (R149). No other command comes with time. -/
def State.fallsDue (s : State) : Instr → Prop
  | .pressInputAccepted p k => ((s.press p).inputs.get k).raw ≠ (s.press p).level k ∧
      s.pressFilter ≤ ((s.press p).inputs.get k).stable
  | .trayPresentAccepted => s.weigh.tray.raw ≠ s.weigh.tray.accepted ∧ s.weigh.filter ≤ s.weigh.tray.stable
  | .overdueExpiry p => (s.press p).state ≠ .unconfigured ∧ (s.press p).overdue = some 0
  | .readyDwellReached p => (s.press p).state = .preheat ∧ ∃ t r, (s.press p).readyRun = some t ∧ s.boundRecipe p = some r ∧
      r.heat.readyDwell * 1000 ≤ t
  | .timeoutTimerExpiry p .loadT => (s.press p).state = .loading ∧ (s.press p).timers.loadT = some 0
  | .timeoutTimerExpiry p .closeT => (s.press p).closeCmd = true ∧ (s.press p).timers.closeT = some 0
  | .timeoutTimerExpiry p .openT => (s.press p).openCmd = true ∧ (s.press p).timers.openT = some 0
  | .timeoutTimerExpiry p .clearT => (s.press p).state = .clearing ∧ (s.press p).timers.clearT = some 0
  | .controlTick p => (s.press p).nextTick = some 0
  | .blindHoldExpiry p i => ∃ z, (s.press p).zones[i]? = some z ∧ z.hold = .running 0
  | .allocationRound => s.feed.nextRound = 0
  | .cureTick p => (s.press p).cure.state = .running ∧ (s.press p).cure.nextTick = some 0 ∧ (s.boundRecipe p).isSome = true
  | .cureTimerExpiry p => (s.press p).cure.state = .running ∧ (s.press p).cure.timer = .running 0
  | .followerDelayEnd p ch => (s.press p).state = .ejecting ∧ (s.press p).eject.channels.get ch = .delaying 0 ∧
      ∀ r c, s.boundRecipe p = some r → channelCavity r.eject r.header.cavities ch = some c →
        ((s.press p).eject.cavities.get c).state = .attempting → ((s.press p).eject.cavities.get c).timer ≠ some 0
  | .strokeEnd p ch => (s.press p).state = .ejecting ∧ ∃ f, (s.press p).eject.channels.get ch = .stroking 0 f
  | .attemptTimerExpiry p c => (s.press p).state = .ejecting ∧ ((s.press p).eject.cavities.get c).state = .attempting ∧
      ((s.press p).eject.cavities.get c).timer = some 0
  | .sampleTimerExpiry => s.weigh.sampleTimer = 0
  | .chargeExpiry p c => ∃ x ∈ (s.press p).staging.get c, (x.expiry - x.weighed).toNat ≤ (s.time - x.weighed).toNat
  | _ => False

end Sys2Proof.Machine

open Sys2Proof Sys2Proof.Machine

/-! ## Steps, the port and the resets -/

/-- The command at the front of the queue runs with the queue's rest (the row's rule for a block; log 1). -/
def Obligations.StepTakesFrontCommand : Prop :=
  ∀ (s : State) (c : Instr) (rest : List Instr), s.pending = c :: rest → step s = exec c { s with pending := rest }

/-- MODEL'S CHOICE (log 1, log 2): on an empty queue the part takes one of the time-driven commands that are due, and with
none due cell time advances by 1 ms and nothing is queued. In that millisecond the running timers count and the paused ones
wait: the load and clear timers run in LOADING and CLEARING, the close and open timers while CLOSE_CMD and OPEN_CMD are
asserted (R28), a blind hold in every state (R90), cure ticks and cure timer while the cure is RUNNING (R109, R117), delays,
strokes and attempt timers in EJECTING (R158, R160), the overdue timer (R60), the control ticks (R80), the ready run (R29),
the allocation rounds (R98), the sample timer (R126) and the filters (R22). Nothing else changes. The commands that are due are
exactly those that `State.fallsDue` names. MODEL'S CHOICE (log 40): the stable time of an input counts to 100 and stays there. -/
def Obligations.EmptyQueueLetsTimePass : Prop :=
  (∀ (s : State) (i : Instr), i ∈ dueEvents s ↔ s.fallsDue i) ∧
  ∀ s : State, s.pending = [] →
    (dueEvents s = [] → ∃ t, step s = .next t ∧ t.time = s.time + 1 ∧ t.pending = [] ∧
      (∀ p, t.press p = { s.press p with
        inputs := (t.press p).inputs, timers := (t.press p).timers, readyRun := (s.press p).readyRun.map (· + 1)
        overdue := (s.press p).overdue.map (· - 1), nextTick := (s.press p).nextTick.map (· - 1)
        zones := (s.press p).zones.map fun z => { z with hold := match z.hold with
          | .running n => .running (n - 1)
          | h => h }
        cure := (t.press p).cure, eject := (t.press p).eject } ∧
        (∀ k, (t.press p).inputs.get k = ⟨((s.press p).inputs.get k).raw, min 100 (((s.press p).inputs.get k).stable + 1),
          (s.press p).level k⟩) ∧
        (t.press p).timers.loadT = (if (s.press p).state = .loading then (s.press p).timers.loadT.map (· - 1)
          else (s.press p).timers.loadT) ∧
        (t.press p).timers.closeT = (if (s.press p).closeCmd then (s.press p).timers.closeT.map (· - 1)
          else (s.press p).timers.closeT) ∧
        (t.press p).timers.openT = (if (s.press p).openCmd then (s.press p).timers.openT.map (· - 1)
          else (s.press p).timers.openT) ∧
        (t.press p).timers.clearT = (if (s.press p).state = .clearing then (s.press p).timers.clearT.map (· - 1)
          else (s.press p).timers.clearT) ∧
        ((s.press p).cure.state ≠ .running → (t.press p).cure = (s.press p).cure) ∧
        ((s.press p).cure.state = .running → (t.press p).cure = { (s.press p).cure with
          nextTick := (s.press p).cure.nextTick.map (· - 1)
          timer := match (s.press p).cure.timer with
            | .running n => .running (n - 1)
            | k => k }) ∧
        ((s.press p).state ≠ .ejecting → (t.press p).eject = (s.press p).eject) ∧
        ((s.press p).state = .ejecting →
          (∀ ch, (t.press p).eject.channels.get ch = (match (s.press p).eject.channels.get ch with
            | .delaying n => .delaying (n - 1)
            | .stroking n f => .stroking (n - 1) f
            | k => k)) ∧
          ∀ c, (t.press p).eject.cavities.get c = { (s.press p).eject.cavities.get c with
            timer := ((s.press p).eject.cavities.get c).timer.map (· - 1) })) ∧
      t.feed = { s.feed with nextRound := s.feed.nextRound - 1 } ∧
      t.weigh = { s.weigh with
        tray := ⟨s.weigh.tray.raw, min 100 (s.weigh.tray.stable + 1), s.weigh.tray.accepted⟩
        sampleTimer := s.weigh.sampleTimer - 1 } ∧
      t = { s with time := t.time, presses := t.presses, feed := t.feed, weigh := t.weigh }) ∧
    (dueEvents s ≠ [] → ∃ i ∈ dueEvents s, step s = .next { s with pending := [i], choice := s.choice + 1 })

/-- No command changes the queue of the commands that wait (log 1). -/
def Obligations.CommandsKeepTheQueue : Prop :=
  ∀ (i : Instr) (s t : State), exec i s = .next t → t.pending = s.pending

/-- R2, R198: a request taken by a listening port is answered by one reply whose payload begins with a status byte, and a
reply other than OK leaves everything but the port as it was. A CAL_COMMIT that is accepted is answered when its row is
written (R132), so it is left out here and has its own statement. A listening port, here and in every statement of a request,
is one in LISTEN or in RECEIVING: that a request's frame is also taken in RECEIVING is the model's choice (log 44). -/
def Obligations.EveryRequestIsAnswered : Prop :=
  ∀ (i : Instr) (type : Byte) (payload : Payload) (s : State), i.wf = true → frameOf i = some (type, payload) →
    (∀ p, i ≠ .calCommit p) → s.listening = true →
    ∃ t status fields, exec i s = .next t ∧ t.link.port = .replying ∧ t.link.reply = some ⟨type, status :: fields⟩ ∧
      (status ≠ 0 → s.sameButPort t)

/-- R197 to R199: while the port is WORKING or REPLYING the bytes of a request are ignored; from LISTEN, a frame whose CRC does
not match, a frame for another station, a frame whose length byte is above 248, a frame cut off by a framing error and a
frame discarded for a byte more than 1 ms late leave no trace, but that the late byte is handled as in LISTEN, so that a late
0xA7 begins a new frame; a type that names no request is refused with UNKNOWN_TYPE; at the end of a reply the port listens. -/
def Obligations.PortTakesWholeFramesOnly : Prop :=
  (∀ (i : Instr) (s : State), (frameOf i).isSome = true → s.link.port = .working ∨ s.link.port = .replying →
    exec i s = .next s) ∧
  (∀ (s : State) (address type : Byte) (payload crc : Payload), s.link.port = .listen → s.link.received = [] →
    payload.length ≤ 248 → crc.length = 2 →
    (crc ≠ crcBytes (address :: type :: BitVec.ofNat 8 payload.length :: payload) →
      exec (.frameDiscarded (lineOf (startByte :: address :: type :: BitVec.ofNat 8 payload.length :: payload ++ crc))) s
        = .next s) ∧
    (address ≠ s.link.address.zeroExtend 8 →
      exec (.frameDiscarded (lineOf (startByte :: address :: type :: BitVec.ofNat 8 payload.length :: payload ++ crc))) s
        = .next s) ∧
    (∀ len : Byte, 248 < len.toNat → exec (.frameDiscarded (lineOf [startByte, address, type, len])) s = .next s) ∧
    (∀ b : Byte, exec (.frameDiscarded (lineOf [startByte, address] ++ [⟨b, false, true⟩])) s = .next s) ∧
    (∀ (b : Byte) (framing : Bool), b ≠ startByte ∨ framing = true →
      exec (.frameDiscarded (lineOf [startByte, address] ++ [⟨b, true, framing⟩])) s = .next s) ∧
    exec (.frameDiscarded (lineOf [startByte, address] ++ [⟨startByte, true, false⟩])) s
      = .next { s with link := { s.link with port := .receiving, received := [startByte] } }) ∧
  (∀ (type : Byte) (payload : Payload) (s : State), requestOf type payload = none → s.listening = true →
    exec (.unknownRequestType type payload) s = .next (refusal type 0x01 0 s)) ∧
  (∀ s : State, s.link.port = .replying →
    exec .replyComplete s = .next { s with link := ⟨.listen, [], s.link.address, s.link.rate, none⟩ })

/-- R196, R197, R199: the frame that carries a well-formed request to a station decodes to that request. -/
def Obligations.FramesDecodeToTheirRequests : Prop :=
  ∀ (address : BitVec 5) (i : Instr) (bytes : Payload), i.wf = true → encode address i = some bytes →
    decodeFrame address bytes = some i

/-- R21, R22, R52, R70, R94, R97, R107, R123, R132, R144, R155, R168, R182, R194, R195, R203: POWER_ON and RESET_PIN reset the
whole part; the calibration rows keep their contents. -/
def Obligations.PowerOnAndResetPin : Prop :=
  ∀ (s : State) (adr : BitVec 5) (rate : BitVec 2),
    (∃ t, exec (.powerOn adr rate) s = .next t ∧ s.restartedFrom .powerOn adr rate t) ∧
    (∃ t, exec (.resetPin adr rate) s = .next t ∧ s.restartedFrom .resetPin adr rate t)

/-- The state after reset: every press UNCONFIGURED with its heat off, no zone, binding, charge, order or record, the
serial counter at 1, RESTART alone in the queue, ATTN asserted. The strap and raw input levels and the unwritten rows of
`State.reset` are the model's choice (log 7, 8, 9) and nothing is stated of them. -/
def Obligations.ResetLeavesThePartQuiet : Prop :=
  (∀ p, (State.reset.press p).state = .unconfigured ∧ (State.reset.press p).heatMode = .off ∧
    (State.reset.press p).zones = [] ∧ (State.reset.press p).bound = none ∧ (State.reset.press p).staging = ⟨[], []⟩ ∧
    (State.reset.press p).faults.active = []) ∧
  State.reset.orders = [] ∧ State.reset.history = ⟨[], some 1⟩ ∧ State.reset.feed.configured = 0 ∧
  State.reset.events.queue = [⟨.restart, none, .cause .powerOn, none, 0⟩] ∧ State.reset.attn = true ∧
  State.reset.EventsBounded ∧ State.reset.SupplyBounded ∧ State.reset.BuildServed ∧ State.reset.SerialsOrdered ∧
  State.reset.LogBounded ∧ State.reset.feed.WithinLimit ∧ State.reset.OpenOnlyInCycle ∧ State.reset.OpenExactlyInCycle ∧
  State.reset.SlotIdsDistinct ∧ State.reset.VerdictsSound ∧ State.reset.StagedInPlace ∧ State.reset.BuildInBuildStates ∧
  ∀ p, (State.reset.press p).PriorMatches ∧ (State.reset.press p).BoardsFollow

/-- R202, R52, R70, R78, R97, R107, R123, R144, R155, R168, R194, R201: the cell reset leaves every configured press IDLE with heat
mode OFF, its duties sent as 0, its cure and ejection ended, its control, feed and cure items cleared and its sensors kept;
proving runs in progress end ABORTED; the orders and the staging are emptied, every OPEN record of a configured press is
closed ABORTED, the fault logs and the event queue are emptied; configuration, calibration, masks, the fields of CELL_CONFIG
and cell time are kept. MODEL'S CHOICE (log 49): the ejection items of every cavity are cleared, to INACTIVE with 0, as the table
of R168 has it against the last sentence of R164. -/
def Obligations.CellResetQuietsTheCell : Prop :=
  ∀ s : State, s.listening = true → ∃ t, exec (.cellReset []) s = .next t ∧
    t.link.reply = some ⟨0x04, [0]⟩ ∧ t.time = s.time ∧ t.restart = some ⟨.cellReset, s.time⟩ ∧
    t.events = ⟨[⟨.restart, none, .cause .cellReset, none, s.time⟩], false, s.events.disabled⟩ ∧
    t.orders = [] ∧ t.nextOrder = s.nextOrder ∧ t.weigh.build = none ∧ t.weigh.rows = s.weigh.rows ∧
    t.weigh.copy = s.weigh.copy ∧ t.weigh.state = (if s.weigh.copy.valid then .idle else .uncalibrated) ∧
    t.recipes.pointer = none ∧ (∀ h x, Slot.loading h x ∉ t.recipes.slots) ∧
    (∀ r, Slot.valid r ∈ t.recipes.slots ↔ Slot.valid r ∈ s.recipes.slots) ∧
    t.history.counter = s.history.counter ∧ t.history.records.map (fun r => r.serial) = s.history.records.map (fun r => r.serial) ∧
    (∀ r ∈ t.history.records, r.close = none → (s.press r.press).configured = false) ∧
    (∀ (i : Nat) (r r' : PartRecord), s.history.records[i]? = some r → t.history.records[i]? = some r' → r.close = none →
      (s.press r.press).configured = true → ∃ reasons, r'.close = some ⟨.aborted, reasons, s.time⟩) ∧
    t.feed = { s.feed with class1 := ⟨0, 0, 0, false⟩, class2 := ⟨0, 0, 0, false⟩, class3 := ⟨0, 0, 0, false⟩ } ∧
    t.pressFilter = s.pressFilter ∧ t.weigh.params = s.weigh.params ∧ t.weigh.used = s.weigh.used ∧
    t.weigh.filter = s.weigh.filter ∧ t.weigh.tray = s.weigh.tray ∧ t.weigh.rawWindow = s.weigh.rawWindow ∧
    t.weigh.massWindow = [] ∧ t.weigh.averages = [] ∧ t.weigh.errors = s.weigh.errors ∧
    t.weigh.sampleTimer = s.weigh.sampleTimer ∧ t.weigh.nextCharge = s.weigh.nextCharge ∧
    t.cellFaults = ⟨none, [], [], s.cellFaults.quiet⟩ ∧
    ∀ p, (t.press p).staging = ⟨[], []⟩ ∧ (t.press p).faults = ⟨none, [], [], (s.press p).faults.quiet⟩ ∧
      ((s.press p).configured = false → (t.press p).state = .unconfigured) ∧
      ((s.press p).configured = true →
        (t.press p).state = .idle ∧ (t.press p).heatMode = .off ∧ (t.press p).config = (s.press p).config ∧
        (t.press p).bound = (s.press p).captured ∧ (t.press p).pendingBinding = none ∧ (t.press p).prior = none ∧
        (t.press p).timers = Timers.none ∧ (t.press p).hostHeat = false ∧ (t.press p).hostMotion = false ∧
        (t.press p).autoLoad = false ∧ (t.press p).autoOrder = false ∧ (t.press p).historyFull = false ∧
        (t.press p).inputs = (s.press p).inputs ∧ (t.press p).nextTick = (s.press p).nextTick ∧
        (t.press p).drive = (s.press p).drive ++ [.duties ((List.range (s.press p).zoneCount).map fun i => (i, 0))] ∧
        (t.press p).streamPos = (s.press p).streamPos ∧ (t.press p).overdue = (s.press p).overdue ∧
        (t.press p).shortfall = 0 ∧ (t.press p).cure.state = .none ∧ (t.press p).cure.timer = .stopped ∧
        (t.press p).cure.closedTime = none ∧ (t.press p).cure.ticks = 0 ∧
        (∀ c, (t.press p).cure.cavities.get c = ⟨false, none, 0, none, [], false, false⟩ ∧
          (t.press p).eject.cavities.get c = ⟨.inactive, 0, 0, none, none, 0, 0, none, none, false⟩) ∧
        (∀ ch, (t.press p).ejectOut ch = false ∧
          ((t.press p).eject.channels.get ch = .idle ∨ (t.press p).eject.channels.get ch = .unused)) ∧
        (t.press p).zoneCount = (s.press p).zoneCount ∧
        (∀ (i : Nat) (z z' : Zone), (s.press p).zones[i]? = some z → (t.press p).zones[i]? = some z' →
          z'.rated = z.rated ∧ z'.spe = none ∧ z'.iacc = 0 ∧ z'.demand = 0 ∧ z'.hold = .stopped ∧ z'.hot = false ∧
          z'.feedLimited = false ∧ z'.request = 0 ∧ z'.grant = 0 ∧ z'.duty = 0 ∧ z'.dose = 0 ∧ z'.residue = 0 ∧
          z'.mismatchRun = 0 ∧ z'.agreeRun = 0 ∧ z'.mismatch = false ∧
          ((s.press p).run.state ≠ .running → z'.primary = z.primary ∧ z'.spare = z.spare)) ∧
        ((s.press p).run.state ≠ .running → (t.press p).run = (s.press p).run) ∧
        ((s.press p).run.state = .running → (t.press p).run.state = .aborted ∧ (t.press p).run.failing = (s.press p).run.failing ∧
          (t.press p).run.first = (s.press p).run.first ∧ (t.press p).run.last = (s.press p).run.last ∧
          (t.press p).run.command = none ∧
          ∀ k ∈ (s.press p).run.selection, k.zone < (s.press p).zoneCount → (t.press p).sensorAt k = ⟨.doubtful, none, 0⟩))

/-- R17, R51, R68, R79, R96, R106, R122, R143, R154, R167, R177, R178, R189, R200, R203: the requests that report the cell, a
press, the queue, the staging lists, the log and the faults answer OK from the state and change nothing but the port; but for PRESS_STATUS a
report of a press is refused with BAD_STATE in UNCONFIGURED; a press number outside 1 to 4 is refused with BAD_ARG.
CLEAR_RESTART makes the restart record absent. MODEL'S CHOICE: one byte for the silicon revision, of a free value (log 10); the
selector byte 0 for QUEUE and what the replies hold where the spec gives no table or leaves a point open (log 14, 21, 41, 46, 49,
50, 52, 53, 54, 55, 61, 62, 63, 64, 65, 71, 72) and the widths of counts (log 35). -/
def Obligations.ReportsChangeNothing : Prop :=
  (∀ s : State, s.listening = true →
    exec (.identify []) s = .next (okReply 0x01
      [0x53, 0x04, 0x20, Config.siliconRevision, s.link.address.zeroExtend 8, s.link.rate.zeroExtend 8, 4] s) ∧
    exec (.getStatus []) s = .next (okReply 0x02 (getStatusReply s) s) ∧
    exec (.getRestart []) s = .next (okReply 0x05 (restartBytes s.restart) s) ∧
    exec (.recipeList []) s = .next (okReply 0x14 (recipeListReply s) s) ∧
    exec (.feedStatus []) s = .next (okReply 0x3C (feedStatusReply s) s) ∧
    exec (.weighStatus []) s = .next (okReply 0x54 (weighStatusReply s) s) ∧
    exec (.clearRestart []) s = .next (okReply 0x06 [] { s with restart := none })) ∧
  (∀ s : State, s.listening = true →
    (∀ p, exec (.pressStatus [pressByte p]) s = .next (okReply 0x29 (pressStatusReply (s.press p)) s)) ∧
    (∀ p, (s.press p).configured = true →
      exec (.sensorStatus [pressByte p]) s = .next (okReply 0x32 (counted sensorEntry (s.press p).zones) s) ∧
      exec (.proveStatus [pressByte p]) s = .next (okReply 0x35 (proveReply (s.press p)) s) ∧
      exec (.cureStatus [pressByte p]) s = .next (okReply 0x40 (cureStatusReply s p) s) ∧
      exec (.ejectStatus [pressByte p]) s = .next (okReply 0x60 (ejectStatusReply s p) s) ∧
      ∀ z : Byte, z.toNat < (s.press p).zoneCount →
        exec (.heatStatus [pressByte p, z]) s = .next (okReply 0x38 (heatStatusReply s p z.toNat) s)) ∧
    (∀ p, (s.press p).configured = false →
      exec (.sensorStatus [pressByte p]) s = .next (refusal 0x32 0x04 0 s) ∧
      exec (.proveStatus [pressByte p]) s = .next (refusal 0x35 0x04 0 s) ∧
      exec (.cureStatus [pressByte p]) s = .next (refusal 0x40 0x04 0 s) ∧
      exec (.ejectStatus [pressByte p]) s = .next (refusal 0x60 0x04 0 s) ∧
      ∀ z, exec (.heatStatus [pressByte p, z]) s = .next (refusal 0x38 0x04 0 s)) ∧
    (∀ b : Byte, b.toNat = 0 ∨ 4 < b.toNat →
      exec (.pressStatus [b]) s = .next (refusal 0x29 0x03 1 s) ∧ exec (.sensorStatus [b]) s = .next (refusal 0x32 0x03 1 s) ∧
      exec (.proveStatus [b]) s = .next (refusal 0x35 0x03 1 s) ∧ exec (.cureStatus [b]) s = .next (refusal 0x40 0x03 1 s) ∧
      exec (.ejectStatus [b]) s = .next (refusal 0x60 0x03 1 s) ∧ exec (.load [b]) s = .next (refusal 0x22 0x03 1 s) ∧
      exec (.resume [b]) s = .next (refusal 0x23 0x03 1 s) ∧ exec (.forceOpen [b]) s = .next (refusal 0x24 0x03 1 s) ∧
      exec (.abort [b]) s = .next (refusal 0x25 0x03 1 s) ∧ exec (.proveStop [b]) s = .next (refusal 0x34 0x03 1 s) ∧
      ∀ z, exec (.heatStatus [b, z]) s = .next (refusal 0x38 0x03 1 s))) ∧
  ∀ s : State, s.listening = true →
    exec (.getStaging [0]) s = .next (okReply 0x5A
      (BitVec.ofNat 8 s.orders.length :: BitVec.ofNat 8 s.nextOrder :: s.orders.flatMap (orderBytes s)) s) ∧
    (∀ p, exec (.getStaging [pressByte p]) s = .next (okReply 0x5A (listBytes s p .c0 ++ listBytes s p .c1) s)) ∧
    (∀ payload start count, payload.length = 5 → readFields [4, 1] payload = [start, count] → 1 ≤ count → count ≤ 16 →
      exec (.historyList payload) s = .next (okReply 0x70 (historyListReply s.history start count) s)) ∧
    (∀ r, s.history.records.find? (fun x => x.close.isSome && !x.readFlag) = some r →
      exec (.historyNext []) s = .next (okReply 0x72 (u32 r.serial) s)) ∧
    (s.history.records.find? (fun x => x.close.isSome && !x.readFlag) = none →
      exec (.historyNext []) s = .next (refusal 0x72 0x0A 0 s)) ∧
    (∀ o, exec (.getFaults [ownerByte o]) s = .next (okReply 0x7A
      (firstBytes o (s.ownerFaults o).first ++ counted (fun c => u8 (FaultCode.code c)) (s.ownerFaults o).next
        ++ counted ActiveFault.bytes (s.ownerFaults o).active ++ maskBytes o (s.ownerFaults o)) s))

/-- R201, R133, R22: an accepted CELL_CONFIG applies every field at once; every input that has held its raw level for the new
filter time is accepted at once, each as its acceptance command would have it; the new weigh parameters are those that apply from
the next sample on, good or ERR, and until then the tests and the raw mean of the station go by the old ones. MODEL'S CHOICE: the
parameters that a request is compared with are those of the latest accepted CELL_CONFIG, and an ERR counts as the next sample
(log 46); the acceptances are taken at once, each a choice of the order (log 2, 33). -/
def Obligations.CellConfigApplies : Prop :=
  (∀ (s : State) (payload : Payload) (limit n settle band tare pressT trayT : Nat), s.listening = true →
    payload.length = 10 → readFields [2, 1, 1, 2, 2, 1, 1] payload = [limit, n, settle, band, tare, pressT, trayT] →
    1 ≤ limit → limit ≤ 65535 → 1 ≤ n → n ≤ 16 → 5 ≤ settle → settle ≤ 50 → 1 ≤ band → band ≤ 2000 → tare ≤ 50000 →
    pressT ≤ 100 → trayT ≤ 100 →
    (s.weigh.state ≠ .idle → s.weigh.state ≠ .uncalibrated → s.weigh.params ≠ ⟨n, settle, band, tare⟩ →
      exec (.cellConfig payload) s = .next (refusal 0x03 0x05 0 s)) ∧
    ((s.weigh.state = .idle ∨ s.weigh.state = .uncalibrated ∨ s.weigh.params = ⟨n, settle, band, tare⟩) →
      (∀ p k, ((s.press p).inputs.get k).due pressT = false) → s.weigh.tray.due trayT = false →
      exec (.cellConfig payload) s = .next (okReply 0x03 []
        { s with
          pressFilter := pressT
          feed := { s.feed with configured := limit }
          weigh := { s.weigh with params := ⟨n, settle, band, tare⟩, filter := trayT } })) ∧
    ((s.weigh.state = .idle ∨ s.weigh.state = .uncalibrated ∨ s.weigh.params = ⟨n, settle, band, tare⟩) →
      let applied : State := { s with
        pressFilter := pressT, feed := { s.feed with configured := limit }, choice := s.choice + 1
        weigh := { s.weigh with params := ⟨n, settle, band, tare⟩, filter := trayT } }
      (∃ t, exec (.cellConfig payload) s = .next t ∧ t.link.reply = some ⟨0x03, [0]⟩ ∧ t.pressFilter = pressT ∧
        t.feed = { s.feed with configured := limit } ∧ t.weigh.params = ⟨n, settle, band, tare⟩ ∧ t.weigh.filter = trayT ∧
        (∀ p k, (t.press p).inputs.get k = (let f := (s.press p).inputs.get k
          if f.raw ≠ f.accepted ∧ pressT ≤ f.stable then ⟨f.raw, f.stable, f.raw⟩ else f)) ∧
        t.weigh.tray = (let f := s.weigh.tray
          if f.raw ≠ f.accepted ∧ trayT ≤ f.stable then ⟨f.raw, f.stable, f.raw⟩ else f)) ∧
      (∀ p k, s.weigh.tray.due trayT = false → (∀ q j, ((s.press q).inputs.get j).due pressT = true ↔ q = p ∧ j = k) →
        ∃ u, exec (.pressInputAccepted p k) applied = .next u ∧ exec (.cellConfig payload) s = .next (okReply 0x03 [] u)) ∧
      (s.weigh.tray.due trayT = true → (∀ q j, ((s.press q).inputs.get j).due pressT = false) →
        ∃ u, exec .trayPresentAccepted applied = .next u ∧ exec (.cellConfig payload) s = .next (okReply 0x03 [] u)))) ∧
  (∀ (w : Weigh) (q : WeighParams), { w with params := q }.settled = w.settled ∧ { w with params := q }.settleSpan = w.settleSpan ∧
    { w with params := q }.rawMean = w.rawMean ∧ { w with params := q }.average = w.average) ∧
  (∀ (s : State) (x : ScaleSample), ∃ t, exec (.scaleSample x) s = .next t ∧ t.weigh.params = s.weigh.params ∧
    t.weigh.used = s.weigh.params) ∧
  ∀ s : State, s.weigh.sampleTimer = 0 → ∃ t, exec .sampleTimerExpiry s = .next t ∧ t.weigh.params = s.weigh.params ∧
    t.weigh.used = s.weigh.params

/-! ## Recipes -/

/-- R5, R6: an accepted RECIPE_BEGIN takes the slot of the VALID recipe with its id, else the lowest EMPTY slot once a load
in progress is discarded; the slot is LOADING with the header, every other slot is kept, and HEAT is expected. That bits 2 to 7 of
the flags byte are ignored is the model's choice (log 12). -/
def Obligations.RecipeBeginOpensALoad : Prop :=
  ∀ (s : State) (id rev rows cols cavities fl : Byte) (i : Nat), s.listening = true →
    1 ≤ id.toNat → 1 ≤ rows.toNat → rows.toNat ≤ 3 → 1 ≤ cols.toNat → cols.toNat ≤ 4 → 1 ≤ cavities.toNat →
    cavities.toNat ≤ 2 → s.inUse id.toNat = false →
    ((∃ r, s.recipes.slots[i]? = some (.valid r) ∧ r.header.id = id.toNat ∧
        ∀ j r', j < i → s.recipes.slots[j]? = some (.valid r') → r'.header.id ≠ id.toNat) ∨
      ((∀ r, Slot.valid r ∈ s.recipes.slots → r.header.id ≠ id.toNat) ∧
        (s.recipes.slots.map Slot.discard)[i]? = some .empty ∧
        ∀ j, j < i → (s.recipes.slots.map Slot.discard)[j]? ≠ some .empty)) →
    exec (.recipeBegin [id, rev, rows, cols, cavities, fl]) s = .next (okReply 0x10 [BitVec.ofNat 8 (i + 1), 0]
      { s with recipes := ⟨(s.recipes.slots.map Slot.discard).set i (.loading
          ⟨id.toNat, rev.toNat, rows.toNat, cols.toNat, cavities.toNat, fl.toNat.testBit 0, fl.toNat.testBit 1⟩
          ⟨none, none, none, none, none, none⟩), some .heat⟩ })

/-- R4, R7, R14: the section the pointer names, of the right length and with every field passing its checks, is stored and the
pointer advances in the order the header's flags fix; the last section makes the slot VALID, with the default eject settings
where the header has no EJECT section. Any other section is refused with SEQUENCE, naming the section expected. -/
def Obligations.RecipeSectionAdvances : Prop :=
  (∀ id rev rows cols cavities,
    expected ⟨id, rev, rows, cols, cavities, false, false⟩ = [.heat, .cure, .charge, .footprint] ∧
    expected ⟨id, rev, rows, cols, cavities, true, false⟩ = [.heat, .ramp, .cure, .charge, .footprint] ∧
    expected ⟨id, rev, rows, cols, cavities, false, true⟩ = [.heat, .cure, .charge, .footprint, .eject] ∧
    expected ⟨id, rev, rows, cols, cavities, true, true⟩ = [.heat, .ramp, .cure, .charge, .footprint, .eject]) ∧
  (∀ h x r, x.eject = none → PartialRecipe.complete h x = some r →
    r.eject = ⟨⟨⟨.lead, 800, 0, 1⟩, ⟨.off, 800, 0, 1⟩, ⟨if h.cavities = 2 then .lead else .off, 800, 0, 1⟩, ⟨.off, 800, 0, 1⟩⟩,
      1500, 4⟩) ∧
  ∀ (s : State) (i : Nat) (h : Header) (x : PartialRecipe) (want sec : Section) (contents : Payload), s.listening = true →
    s.recipes.pointer = some want → s.recipes.loading? = some (i, h, x) →
    (∃ ws, sectionWidths h contents sec = some ws ∧ contents.length = ws.sum) →
    (sec ≠ want → exec (.recipeSection (BitVec.ofNat 8 sec.code :: contents)) s
      = .next (refusal 0x11 0x06 (BitVec.ofNat 8 want.code) s)) ∧
    (sec = want → ∀ ws, sectionWidths h contents sec = some ws →
      firstFailing (sectionChecks h (readFields ws contents) sec) = none →
      (∀ nxt, nextSection h sec = some nxt →
        exec (.recipeSection (BitVec.ofNat 8 sec.code :: contents)) s = .next (okReply 0x11 [BitVec.ofNat 8 nxt.code]
          { s with recipes := ⟨s.recipes.slots.set i (.loading h (storeSection h (readFields ws contents) sec x)), some nxt⟩ })) ∧
      (nextSection h sec = none → ∀ r, (storeSection h (readFields ws contents) sec x).complete h = some r →
        exec (.recipeSection (BitVec.ofNat 8 sec.code :: contents)) s = .next (okReply 0x11 [0xFE]
          { s with recipes := ⟨s.recipes.slots.set i (.valid r), none⟩ })))

/-- R15: RECIPE_ABANDON empties the LOADING slot, and is refused with no load in progress; RECIPE_DELETE empties the slot
of a VALID recipe that is not in use, and is refused for no slot, a LOADING slot and a recipe in use. -/
def Obligations.RecipeAbandonAndDelete : Prop :=
  ∀ s : State, s.listening = true →
    (∀ sec, s.recipes.pointer = some sec →
      exec (.recipeAbandon []) s = .next (okReply 0x12 [] { s with recipes := ⟨s.recipes.slots.map Slot.discard, none⟩ })) ∧
    (s.recipes.pointer = none → exec (.recipeAbandon []) s = .next (refusal 0x12 0x04 0 s)) ∧
    (∀ id : Byte, (∀ x ∈ s.recipes.slots, Slot.holdsId id.toNat x = false) →
      exec (.recipeDelete [id]) s = .next (refusal 0x13 0x0A 0 s)) ∧
    (∀ (id : Byte) (i : Nat), (∀ j x, j < i → s.recipes.slots[j]? = some x → Slot.holdsId id.toNat x = false) →
      (∀ r, s.recipes.slots[i]? = some (.valid r) → r.header.id = id.toNat →
        (s.inUse id.toNat = true → exec (.recipeDelete [id]) s = .next (refusal 0x13 0x07 0 s)) ∧
        (s.inUse id.toNat = false → exec (.recipeDelete [id]) s
          = .next (okReply 0x13 [] { s with recipes := { s.recipes with slots := s.recipes.slots.set i .empty } }))) ∧
      (∀ h x, s.recipes.slots[i]? = some (.loading h x) → h.id = id.toNat →
        exec (.recipeDelete [id]) s = .next (refusal 0x13 0x04 0 s)))

/-- R18, R20, R151, R152: BIND_RECIPE of a VALID recipe with the press's grid is applied at once in IDLE, making it the bound
recipe, and becomes the pending binding in a cycle, in HELD and in ABORTING. In PREHEAT and READY it is applied at once and the
press enters PREHEAT afresh. The charges and orders of other recipes are scrubbed, CHARGE_SCRAPPED is queued for each charge in
list order, and auto-order answers each charge removed while it may: how many orders it places is stated where every staged charge
stands in its own list and, of an uncalibrated station, where a build is in hand only in the build states, as every step keeps it
(StepsKeepTheSupplyBound). MODEL'S CHOICE (log 70): the CHARGE_SCRAPPED events stand before the PRESS_STATE of the fresh PREHEAT. -/
def Obligations.BindRecipeBinds : Prop :=
  ∀ (s : State) (p : PressId) (id : Byte) (r : Recipe) (cfg : PressConfig), s.listening = true →
    (s.press p).config = some cfg → s.recipes.find id.toNat = some r → r.header.rows = cfg.rows → r.header.cols = cfg.cols →
    (((s.press p).state.inCycle = true ∨ (s.press p).state = .held ∨ (s.press p).state = .aborting) →
      exec (.bindRecipe [pressByte p, id]) s
        = .next (okReply 0x15 [1] (s.updPress p fun pr => { pr with pendingBinding := some r.header.ref }))) ∧
    (((s.press p).state = .idle ∨ (s.press p).state = .preheat ∨ (s.press p).state = .ready) →
      ∃ t, exec (.bindRecipe [pressByte p, id]) s = .next t ∧ t.link.reply = some ⟨0x15, [0, 0]⟩ ∧
        (t.press p).bound = some r.header.ref ∧ (t.press p).pendingBinding = none ∧
        (t.press p).state = (if (s.press p).state = .idle then .idle else .preheat) ∧
        (∀ c, (t.press p).staging.get c = ((s.press p).staging.get c).filter fun ch => decide (ch.recipe = r.header.ref)) ∧
        (let gone := fun c => ((s.press p).staging.get c).filter fun ch => decide (ch.recipe ≠ r.header.ref)
         let kept := s.orders.filter fun o => decide (o.press ≠ p ∨ o.recipe = r.header.ref)
         let scrapped := (gone .c0 ++ gone .c1).foldl
           (fun u ch => queueEvent .chargeScrapped (some p) (.charge ch.cavity) (some ch.number) u) s
         t.events = (if (s.press p).state = .idle then scrapped else queueEntry p .preheat scrapped).events ∧
         ∃ new, t.orders = kept ++ new ∧ (∀ o ∈ new, o.press = p ∧ o.recipe = r.header.ref ∧ o.attempts = 0) ∧
          ((s.press p).autoOrder = false ∨ (s.press p).heatMode ≠ .run → new = []) ∧
          (s.BuildInBuildStates → s.weigh.state = .uncalibrated → new = []) ∧
          (s.StagedInPlace → (s.press p).autoOrder = true → (s.press p).heatMode = .run → s.weigh.state ≠ .uncalibrated →
            kept.length + (gone .c0).length + (gone .c1).length ≤ 8 → ∀ c,
            (cavityCode c < r.header.cavities → (new.countP fun o => decide (o.cavity = c)) = min (gone c).length
              (2 - (((t.press p).staging.get c).length + kept.countP fun o => decide (o.press = p ∧ o.cavity = c)))) ∧
            (r.header.cavities ≤ cavityCode c → ∀ o ∈ new, o.cavity ≠ c))) ∧
        (∀ q, q ≠ p → t.press q = s.press q) ∧ t.history = s.history ∧ t.recipes = s.recipes)

/-! ## Reports, events, masks and faults -/

/-- R53 to R56: a GET_MAP of a valid window reports each zone of the window exactly once, in the order asked for, and
changes nothing: by zone number in ROW_MAJOR, by column and then by row in COLUMN_MAJOR, and backwards in DECREASING order. -/
def Obligations.MapReportsTheWindowOnce : Prop :=
  ∀ (s : State) (p : PressId) (cfg : PressConfig) (w : Window) (byColumn decreasing : Bool) (content : Nat),
    s.listening = true → (s.press p).configured = true → (s.press p).config = some cfg → cfg.rows ≤ 3 → cfg.cols ≤ 4 →
    (s.press p).zoneCount = 2 * cfg.rows * cfg.cols → w.rowStart ≤ w.rowEnd → w.rowEnd < cfg.rows →
    w.colStart ≤ w.colEnd → w.colEnd < cfg.cols → content ≤ 4 →
    ∃ zs : List Nat,
      exec (.getMap [pressByte p, platenByte w.platen, BitVec.ofNat 8 w.rowStart, BitVec.ofNat 8 w.rowEnd,
          BitVec.ofNat 8 w.colStart, BitVec.ofNat 8 w.colEnd, if byColumn then 1 else 0, if decreasing then 1 else 0,
          BitVec.ofNat 8 content]) s
        = .next (okReply 0x30 (BitVec.ofNat 8 zs.length :: zs.flatMap fun i =>
            match (s.press p).zones[i]? with
            | some z => mapEntry (s.press p) content z
            | none => []) s) ∧
      zs.Nodup ∧ zs.length = (w.rowEnd + 1 - w.rowStart) * (w.colEnd + 1 - w.colStart) ∧
      (∀ i ∈ zs, i < (s.press p).zoneCount) ∧
      (∀ i, i ∈ zs ↔ ∃ r c, w.rowStart ≤ r ∧ r ≤ w.rowEnd ∧ w.colStart ≤ c ∧ c ≤ w.colEnd ∧
        i = (if w.platen = .bottom then cfg.rows * cfg.cols else 0) + r * cfg.cols + c) ∧
      (byColumn = false → decreasing = false → zs.Pairwise (· < ·)) ∧
      (byColumn = false → decreasing = true → zs.Pairwise (· > ·)) ∧
      (byColumn = true → decreasing = false →
        zs.Pairwise fun i j => i % cfg.cols < j % cfg.cols ∨ (i % cfg.cols = j % cfg.cols ∧ i < j)) ∧
      (byColumn = true → decreasing = true →
        zs.Pairwise fun i j => j % cfg.cols < i % cfg.cols ∨ (i % cfg.cols = j % cfg.cols ∧ j < i))

/-- R191, R193: GET_EVENTS returns the oldest entries up to its count, removes them and clears the overflow flag; a count
outside 1 to 16 is refused. ATTN is asserted exactly while the event queue holds an entry; it asserts when an entry is appended
to the empty queue and deasserts when a GET_EVENTS removes the last entry; an event that is dropped or masked does not move it;
a reset leaves it asserted. MODEL'S CHOICE (log 64): the value byte that goes with a qualifier of the kind none is 0. -/
def Obligations.EventsDrainAndAttnFollows : Prop :=
  (∀ (s : State) (n : Byte), s.listening = true →
    (1 ≤ n.toNat → n.toNat ≤ 16 → exec (.getEvents [n]) s = .next (okReply 0x7C
      ([if s.events.overflow then 1 else 0, BitVec.ofNat 8 (min n.toNat s.events.queue.length),
        BitVec.ofNat 8 (s.events.queue.length - n.toNat)] ++ (s.events.queue.take n.toNat).flatMap Event.bytes)
      { s with events := ⟨s.events.queue.drop n.toNat, false, s.events.disabled⟩ })) ∧
    (n.toNat = 0 ∨ 16 < n.toNat → exec (.getEvents [n]) s = .next (refusal 0x7C 0x03 1 s))) ∧
  (∀ s : State, s.attn = true ↔ 1 ≤ s.events.queue.length) ∧
  (∀ (k : EventKind) (pr : Option PressId) (d : Detail) (n : Option Nat) (s : State), s.events.queue = [] →
    s.events.disabled.contains k = false → s.attn = false ∧ (queueEvent k pr d n s).attn = true) ∧
  (∀ (k : EventKind) (pr : Option PressId) (d : Detail) (n : Option Nat) (s : State),
    s.events.disabled.contains k = true ∨ 64 ≤ s.events.queue.length → (queueEvent k pr d n s).attn = s.attn) ∧
  (∀ (s : State) (n : Byte), s.listening = true → 1 ≤ n.toNat → n.toNat ≤ 16 →
    ∃ t, exec (.getEvents [n]) s = .next t ∧ t.attn = decide (n.toNat < s.events.queue.length)) ∧
  (∀ (s : State) (adr : BitVec 5) (rate : BitVec 2),
    (∃ t, exec (.powerOn adr rate) s = .next t ∧ t.attn = true) ∧
    (∃ t, exec (.resetPin adr rate) s = .next t ∧ t.attn = true) ∧
    (s.listening = true → ∃ t, exec (.cellReset []) s = .next t ∧ t.attn = true))

/-- R184 to R186, R190, R192, R39: what raising a fault does, step by step: a STOP fault joins the active set once and keeps
its time; a STOP or DEGRADE fault is logged; the OPEN records of the press carry the code or their more marker; the FAULT
event is queued unless it is quiet, disabled or finds the queue full; only a STOP fault of a press in an active state moves
the press, to HELD. MODEL'S CHOICE (log 61): the active set is listed in the order in which its entries joined. -/
def Obligations.RaisingAFault : Prop :=
  ∀ (o : Owner) (c : FaultCode) (q : Qualifier) (s : State),
    let t := raiseFault o c q s
    (c.cls = .stop → (∃ a ∈ (t.ownerFaults o).active, a.code = c ∧ a.qual = q) ∧
      ((∀ a ∈ (s.ownerFaults o).active, ¬(a.code = c ∧ a.qual = q)) →
        (t.ownerFaults o).active = (s.ownerFaults o).active ++ [⟨c, q, s.time⟩]) ∧
      ((∃ a ∈ (s.ownerFaults o).active, a.code = c ∧ a.qual = q) → (t.ownerFaults o).active = (s.ownerFaults o).active)) ∧
    (c.cls ≠ .stop → (t.ownerFaults o).active = (s.ownerFaults o).active) ∧
    (c.cls = .advisory → (t.ownerFaults o).first = (s.ownerFaults o).first ∧ (t.ownerFaults o).next = (s.ownerFaults o).next) ∧
    (c.cls ≠ .advisory →
      ((s.ownerFaults o).first = none →
        (t.ownerFaults o).first = some ⟨c, c.cls, s.time, s.ownerState o, q⟩ ∧ (t.ownerFaults o).next = (s.ownerFaults o).next) ∧
      (∀ f, (s.ownerFaults o).first = some f → (t.ownerFaults o).first = some f ∧
        ∀ x, x ∈ (t.ownerFaults o).next ↔ x = c ∨ x ∈ (s.ownerFaults o).next)) ∧
    (t.ownerFaults o).quiet = (s.ownerFaults o).quiet ∧
    t.history.records.length = s.history.records.length ∧
    (∀ (i : Nat) (r r' : PartRecord), s.history.records[i]? = some r → t.history.records[i]? = some r' →
      (r.close = none ∧ o = .press r.press → (c ∈ r'.faults ∨ (r'.more = true ∧ 6 ≤ r.faults.length)) ∧ r'.close = none ∧
        (c.cls = .stop → r'.stopMark = true) ∧ (c = .feedShort → r'.feedShortMark = true)) ∧
      (¬(r.close = none ∧ o = .press r.press) → r' = r)) ∧
    ((s.ownerFaults o).quiet.contains c = false → s.events.disabled.contains .fault = false → s.events.queue.length < 64 →
      t.events.queue[s.events.queue.length]? = some ⟨.fault, ownerPress o, .fault c c.cls q, none, s.time⟩) ∧
    ((s.ownerFaults o).quiet.contains c = true → c.cls ≠ .stop → t.events = s.events) ∧
    (∀ p, o = .press p → c.cls = .stop → (s.press p).state.isActive = true →
      (t.press p).state = .held ∧ (t.press p).prior = some (s.press p).state ∧ (t.press p).timers = Timers.none) ∧
    (∀ p, (o ≠ .press p ∨ c.cls ≠ .stop ∨ (s.press p).state.isActive = false) →
      (t.press p).state = (s.press p).state ∧ (t.press p).prior = (s.press p).prior ∧ (t.press p).timers = (s.press p).timers)

/-- R187, R188, R192: CLEAR_FAULTS empties the log and removes exactly the active faults whose condition holds; a mask
request sets one entry of one mask and changes nothing else. That the refusal to disable RESTART names field 2, the later of the
two fields it checks, is the model's choice (log 11), and so are the order in which the reply of CLEAR_FAULTS lists the active
set (log 61), the value byte of an absent qualifier in it (log 64), and in the replies with masks the count byte before an
owner's mask and none before the event masks (log 14). -/
def Obligations.FaultAndEventRequests : Prop :=
  ∀ s : State, s.listening = true →
    (∀ o, ∃ t, exec (.clearFaults [ownerByte o]) s = .next t ∧ (t.ownerFaults o).first = none ∧
      (t.ownerFaults o).next = [] ∧ (t.ownerFaults o).quiet = (s.ownerFaults o).quiet ∧
      (∀ a, a ∈ (t.ownerFaults o).active ↔ a ∈ (s.ownerFaults o).active ∧
        (match o, a.code, a.qual with
          | .cell, .scaleLost, _ => s.weigh.errors ≠ 0
          | .press p, .overheat, _ => ∃ z ∈ (s.press p).zones, ∀ v, z.value = some v → 3100 < v
          | .press p, .zoneBlind, .zone i => ∀ z, (s.press p).zones[i]? = some z → z.source = .none
          | .press _, .zoneBlind, _ => True
          | .press p, .guardOpen, _ => (s.press p).level .guard = false
          | _, _, _ => False)) ∧
      t.link.reply = some ⟨0x78, 0 :: counted ActiveFault.bytes (t.ownerFaults o).active⟩ ∧
      (∀ o', o' ≠ o → t.ownerFaults o' = s.ownerFaults o') ∧ t.events = s.events ∧ t.weigh = s.weigh ∧ t.orders = s.orders ∧
      (∀ p, (t.press p).state = (s.press p).state ∧ (t.press p).zones = (s.press p).zones)) ∧
    (∀ o c (quiet : Bool), c ∈ catalogue o → ∃ t, exec (.setFaultMask [ownerByte o, BitVec.ofNat 8 c.code, if quiet then 1 else 0]) s
        = .next (okReply 0x79 (maskBytes o (t.ownerFaults o)) t) ∧
      (∀ x, x ∈ (t.ownerFaults o).quiet ↔ if x = c then quiet = true else x ∈ (s.ownerFaults o).quiet) ∧
      t = s.updOwnerFaults o fun f => { f with quiet := (t.ownerFaults o).quiet }) ∧
    (∀ o c, c ∉ catalogue o → ∀ k : Byte, k.toNat ≤ 1 →
      exec (.setFaultMask [ownerByte o, BitVec.ofNat 8 c.code, k]) s = .next (refusal 0x79 0x03 2 s)) ∧
    (∀ (k : EventKind) (disable : Bool), (k = .restart → disable = false) →
      ∃ ds, exec (.setEventMask [BitVec.ofNat 8 k.code, if disable then 1 else 0]) s
          = .next (okReply 0x7B (allKinds.map fun x => if x ∈ ds then 1 else 0) { s with events := { s.events with disabled := ds } }) ∧
        ∀ x, x ∈ ds ↔ if x = k then disable = true else x ∈ s.events.disabled) ∧
    exec (.setEventMask [9, 1]) s = .next (refusal 0x7B 0x03 2 s)

/-! ## The press sequencer -/

/-- R24, R25, R69, R95, R123: an accepted PRESS_CONFIG from UNCONFIGURED goes to IDLE with heat mode OFF, a grid of new zones
and the control ticks begun, the first 500 ms later (the model's choice, log 4); in IDLE a grid that is kept keeps the
bindings, the staging and the sensors whose fitting is unchanged, and a new grid brings new zones and unbinds a bound press; in
other states it is refused with BAD_STATE. -/
def Obligations.PressConfigTakesConfiguration : Prop :=
  ∀ (s : State) (p : PressId) (c : PressConfig) (entries : List ZoneEntry), s.listening = true → c.inRanges entries →
    ((s.press p).state ≠ .unconfigured → (s.press p).state ≠ .idle →
      exec (.pressConfig (configPayload p c entries)) s = .next (refusal 0x20 0x04 0 s)) ∧
    ((s.press p).state = .unconfigured → (s.press p).config = none → (s.press p).run.state ≠ .running →
      ∃ t, exec (.pressConfig (configPayload p c entries)) s = .next t ∧ t.link.reply = some ⟨0x20, [0]⟩ ∧
        (t.press p).state = .idle ∧ (t.press p).heatMode = .off ∧ (t.press p).config = some c ∧
        (t.press p).nextTick = some 500 ∧ (t.press p).overdue = some 250 ∧ (t.press p).streamPos = none ∧
        (t.press p).inputs = (s.press p).inputs ∧ (t.press p).zoneCount = entries.length ∧
        (∀ (i : Nat) (e : ZoneEntry) (z : Zone), entries[i]? = some e → (t.press p).zones[i]? = some z → z.brandNew e ∧ z.spe = none) ∧
        t.events = (queueEntry p .idle s).events ∧ t.history = s.history ∧ s.sameOutside p t) ∧
    (∀ old, (s.press p).state = .idle → (s.press p).config = some old → (s.press p).run.state ≠ .running →
      old.rows = c.rows → old.cols = c.cols → (s.press p).zoneCount = entries.length →
      ∃ t, exec (.pressConfig (configPayload p c entries)) s = .next t ∧ t.link.reply = some ⟨0x20, [0]⟩ ∧
        (t.press p).state = .idle ∧ (t.press p).heatMode = (s.press p).heatMode ∧ (t.press p).config = some c ∧
        (t.press p).bound = (s.press p).bound ∧ (t.press p).pendingBinding = (s.press p).pendingBinding ∧
        (t.press p).staging = (s.press p).staging ∧ (t.press p).faults = (s.press p).faults ∧
        (t.press p).streamPos = (s.press p).streamPos ∧
        (∀ (i : Nat) (e : ZoneEntry) (z : Zone), entries[i]? = some e → (s.press p).zones[i]? = some z → ∃ z', (t.press p).zones[i]? = some z' ∧
          z'.rated = e.rated ∧ z'.mismatch = false ∧ z'.iacc = z.iacc ∧ z'.demand = z.demand ∧ z'.dose = z.dose ∧
          z'.grant = z.grant ∧
          z'.primary = (if z.primaryFitted = e.primary then z.primary
            else if e.primary then ⟨.doubtful, none, 0⟩ else ⟨.absent, none, 0⟩) ∧
          z'.spare = (if z.spareFitted = e.spare then z.spare
            else if e.spare then ⟨.doubtful, none, 0⟩ else ⟨.absent, none, 0⟩)) ∧
        t.events = s.events ∧ t.history = s.history ∧ s.sameOutside p t) ∧
    (∀ old, (s.press p).state = .idle → (s.press p).config = some old → (s.press p).run.state ≠ .running →
      (old.rows ≠ c.rows ∨ old.cols ≠ c.cols) →
      ∃ t, exec (.pressConfig (configPayload p c entries)) s = .next t ∧ t.link.reply = some ⟨0x20, [0]⟩ ∧
        (t.press p).state = .idle ∧ (t.press p).config = some c ∧ (t.press p).bound = none ∧ (t.press p).pendingBinding = none ∧
        (t.press p).zoneCount = entries.length ∧
        (∀ (i : Nat) (e : ZoneEntry) (z : Zone), entries[i]? = some e → (t.press p).zones[i]? = some z → z.brandNew e) ∧
        (∀ a ∈ (t.press p).faults.active, a.code ≠ .zoneBlind) ∧
        ((s.press p).bound.isSome = true → (t.press p).staging = ⟨[], []⟩ ∧ ∀ o ∈ t.orders, o.press ≠ p) ∧
        t.history = s.history ∧ ∀ q, q ≠ p → t.press q = s.press q) ∧
    ((s.press p).state = .idle → (s.press p).run.state = .running →
      exec (.pressConfig (configPayload p c entries)) s = .next (refusal 0x20 0x05 0 s))

/-- R26, R82, R93: HEAT_MODE by press state, with the effective setpoints it starts and the drive duties it sends; a press
number outside 1 to 4 is refused with BAD_ARG, and so is an unnamed mode, whatever the press state (the model's choice, log 15). -/
def Obligations.HeatModeByState : Prop :=
  ∀ (s : State) (p : PressId), s.listening = true →
    ((s.press p).state = .idle →
      exec (.heatMode [pressByte p, 0]) s = .next (okReply 0x21 [] (s.updPress p fun pr =>
        pr.driven { pr with heatMode := .off, zones := heatOffZones pr.zones })) ∧
      exec (.heatMode [pressByte p, 1]) s = .next (okReply 0x21 [] (s.updPress p fun pr =>
        pr.driven { pr with heatMode := .standby, zones := standbyZones pr.config pr.zones })) ∧
      ((s.press p).bound = none → exec (.heatMode [pressByte p, 2]) s = .next (refusal 0x21 0x04 0 s)) ∧
      ((s.press p).bound.isSome = true → ∃ t, exec (.heatMode [pressByte p, 2]) s = .next t ∧
        t.link.reply = some ⟨0x21, [0]⟩ ∧ (t.press p).state = .preheat ∧ (t.press p).heatMode = .run ∧
        (t.press p).readyRun = (if s.allInBand p then some 0 else none) ∧ (t.press p).bound = (s.press p).bound ∧
        (t.press p).zoneCount = (s.press p).zoneCount ∧
        (∀ (i : Nat) (z : Zone), (s.press p).zones[i]? = some z → (t.press p).zones[i]? = some { z with
          spe := match z.value with
            | some v => some v
            | none => (s.boundRecipe p).bind fun r => r.heat.setpoints[i]? }) ∧
        t.events = (queueEntry p .preheat s).events ∧ t.history = s.history ∧ s.sameOutside p t)) ∧
    ((s.press p).state = .preheat ∨ (s.press p).state = .ready →
      exec (.heatMode [pressByte p, 2]) s = .next (okReply 0x21 [] s) ∧
      exec (.heatMode [pressByte p, 0]) s = .next (okReply 0x21 [] (queueEntry p .idle (s.updPress p fun pr =>
        Press.entered .idle Timers.none (pr.driven { pr with heatMode := .off, zones := heatOffZones pr.zones })))) ∧
      exec (.heatMode [pressByte p, 1]) s = .next (okReply 0x21 [] (queueEntry p .idle (s.updPress p fun pr =>
        Press.entered .idle Timers.none
          (pr.driven { pr with heatMode := .standby, zones := standbyZones pr.config pr.zones }))))) ∧
    ((s.press p).state ≠ .idle → (s.press p).state ≠ .preheat → (s.press p).state ≠ .ready →
      ∀ m : Byte, m.toNat ≤ 2 → exec (.heatMode [pressByte p, m]) s = .next (refusal 0x21 0x04 0 s)) ∧
    (∀ m : Byte, 2 < m.toNat → exec (.heatMode [pressByte p, m]) s = .next (refusal 0x21 0x03 2 s)) ∧
    ∀ b m : Byte, b.toNat = 0 ∨ 4 < b.toNat → exec (.heatMode [b, m]) s = .next (refusal 0x21 0x03 1 s)

/-- R31, R32, R150, R152, R171, R172: LOAD refuses in the order of its checks; a LOAD that passes them reserves one OPEN record
for each cavity under the next serials, moves the oldest charge of each cavity into its record, lets auto-order place one order
for each charge taken, and goes to LOADING with the load timer full (on to CLOSING, or to CURING, where LOADED, or CLOSED as
well, is asserted already). -/
def Obligations.LoadTakesTheCharges : Prop :=
  ∀ (s : State) (p : PressId), s.listening = true →
    ((s.press p).state ≠ .ready → exec (.load [pressByte p]) s = .next (refusal 0x22 0x04 0 s)) ∧
    ((s.press p).state = .ready → (s.press p).run.state = .running → exec (.load [pressByte p]) s = .next (refusal 0x22 0x05 0 s)) ∧
    (∀ r ref, (s.press p).state = .ready → (s.press p).run.state ≠ .running → (s.press p).bound = some ref →
      s.boundRecipe p = some r →
      ((∃ c ∈ cavitiesOf r.header.cavities, (s.press p).staging.get c = []) →
        exec (.load [pressByte p]) s = .next (refusal 0x22 0x09 0 s)) ∧
      ((∀ c ∈ cavitiesOf r.header.cavities, ∃ ch rest, (s.press p).staging.get c = ch :: rest ∧ ch.recipe = ref) →
        (s.history.free < (cavitiesOf r.header.cavities).length →
          exec (.load [pressByte p]) s = .next (refusal 0x22 0x08 0 s)) ∧
        (∀ n, s.history.counter = some n → (cavitiesOf r.header.cavities).length ≤ s.history.free →
          ∃ t, exec (.load [pressByte p]) s = .next t ∧
            t.link.reply = some ⟨0x22, 0 :: BitVec.ofNat 8 (cavitiesOf r.header.cavities).length ::
              (cavitiesOf r.header.cavities).flatMap fun c => u32 (n + cavityCode c)⟩ ∧
            (t.history.records.drop s.history.records.length).map
                (fun x => (x.serial, x.press, x.cavity, x.recipe, x.reserved, x.charge))
              = (cavitiesOf r.header.cavities).map (fun c =>
                (n + cavityCode c, p, c, ref, s.time, ((s.press p).staging.get c).head?.map fun ch =>
                  ⟨ch.number, ch.tare, ch.masses, ch.total, ch.attempts, ch.weighed, (s.time - ch.weighed).toNat⟩)) ∧
            (∀ x ∈ t.history.records.drop s.history.records.length, x.close = none) ∧
            (∀ c ∈ cavitiesOf r.header.cavities, (t.press p).staging.get c = ((s.press p).staging.get c).tail) ∧
            (∀ q, q ≠ p → t.press q = s.press q) ∧ ((s.press p).autoOrder = false → t.orders = s.orders) ∧
            ((s.press p).autoOrder = true → (s.press p).heatMode = .run → (s.press p).pendingBinding = none →
              s.weigh.state ≠ .uncalibrated → s.orders.length + (cavitiesOf r.header.cavities).length ≤ 8 →
              1 ≤ r.header.cavities → (∀ c ∈ cavitiesOf r.header.cavities, s.supply p c ≤ 2) →
              ∃ new, t.orders = s.orders ++ new ∧ new.map (fun o => (o.press, o.cavity, o.recipe, o.attempts))
                = (cavitiesOf r.header.cavities).map fun c => (p, c, ref, 0)) ∧
            (t.press p).historyFull = false ∧
            ((s.press p).level .loadedSw = false → (t.press p).state = .loading ∧ (t.press p).loadCmd = true ∧
              (t.press p).timers.loadT = (s.press p).config.map fun k => k.loadTimeout * 1000) ∧
            ((s.press p).level .loadedSw = true → (s.press p).level .closedSw = false → (t.press p).state = .closing) ∧
            ((s.press p).level .loadedSw = true → (s.press p).level .closedSw = true → (t.press p).state = .curing))))

/-- R41, R42, R165: RESUME is refused outside HELD and while a STOP fault is active; an accepted RESUME returns the press by
its prior state, with the timer of the state full. The levels that would move the press on at once are deasserted here, and
auto-load is off where READY stands. The demould summaries follow the attempts that start (R166). -/
def Obligations.ResumeReturnsByPriorState : Prop :=
  ∀ (s : State) (p : PressId), s.listening = true →
    ((s.press p).state ≠ .held ∨ (s.press p).faults.active ≠ [] →
      exec (.resume [pressByte p]) s = .next (refusal 0x23 0x04 0 s)) ∧
    ((s.press p).state = .held → (s.press p).faults.active = [] →
      ((s.press p).prior = some .preheat ∨ ((s.press p).prior = some .ready ∧ s.allInBand p = false) →
        ∃ t, exec (.resume [pressByte p]) s = .next t ∧ t.link.reply = some ⟨0x23, [0]⟩ ∧ (t.press p).state = .preheat ∧
          (t.press p).prior = none ∧ (t.press p).readyRun = (if s.allInBand p then some 0 else none) ∧
          (t.press p).zones = (s.press p).zones ∧ t.history = s.history ∧ s.sameOutside p t) ∧
      ((s.press p).prior = some .ready → s.allInBand p = true → s.autoLoadOff p →
        exec (.resume [pressByte p]) s = .next (okReply 0x23 [] (queueEntry p .ready
          (s.updPress p (Press.entered .ready Timers.none))))) ∧
      ((s.press p).prior = some .loading → (s.press p).level .loadedSw = false →
        exec (.resume [pressByte p]) s = .next (okReply 0x23 [] (queueEntry p .loading
          (s.updPress p fun pr => pr.entered .loading { Timers.none with loadT := pr.config.map fun k => k.loadTimeout * 1000 })))) ∧
      ((s.press p).prior = some .closing → (s.press p).level .closedSw = false →
        exec (.resume [pressByte p]) s = .next (okReply 0x23 [] (queueEntry p .closing
          (s.updPress p fun pr => pr.entered .closing { Timers.none with closeT := pr.config.map fun k => k.closeTimeout * 1000 })))) ∧
      ((s.press p).prior = some .clearing → (s.press p).level .unloadedSw = false →
        exec (.resume [pressByte p]) s = .next (okReply 0x23 [] (queueEntry p .clearing
          (s.updPress p fun pr => pr.entered .clearing { Timers.none with clearT := pr.config.map fun k => k.clearTimeout * 1000 })))) ∧
      (∀ r, (s.press p).prior = some .curing → s.boundRecipe p = some r → s.allComplete p = false →
        exec (.resume [pressByte p]) s = .next (okReply 0x23 [] (queueEntry p .curing (s.updPress p fun pr =>
          { pr.entered .curing Timers.none with cure := { pr.cure with timer := .running (r.cure.maxTime * 1000) } })))) ∧
      (((s.press p).prior = some .opening ∨ ((s.press p).prior = some .curing ∧ s.allComplete p = true)) →
        (s.press p).level .openSw = false →
        ∃ t, exec (.resume [pressByte p]) s = .next t ∧ t.link.reply = some ⟨0x23, [0]⟩ ∧ (t.press p).state = .opening ∧
          (t.press p).prior = none ∧
          (t.press p).timers.openT = ((s.press p).config.map fun k => k.openTimeout * 1000) ∧
          ((s.press p).prior = some .curing → (t.press p).cure.state ≠ .running) ∧
          (t.press p).zones = (s.press p).zones ∧ s.sameOutside p t) ∧
      (∀ r c, (s.press p).prior = some .ejecting → s.boundRecipe p = some r → c ∈ cavitiesOf r.header.cavities →
        ((s.press p).eject.cavities.get c).state = .halted → (s.press p).level (partFree c) = false →
        ∃ t, exec (.resume [pressByte p]) s = .next t ∧ t.link.reply = some ⟨0x23, [0]⟩ ∧ (t.press p).state = .ejecting ∧
          ((t.press p).eject.cavities.get c).state = .attempting ∧ ((t.press p).eject.cavities.get c).seqAttempts = 1 ∧
          ((t.press p).eject.cavities.get c).escalation = ((s.press p).eject.cavities.get c).escalation ∧
          ((t.press p).eject.cavities.get c).start = some s.time ∧
          ((t.press p).eject.cavities.get c).timer = some r.eject.releaseTimeout ∧ s.demouldFollows p t ∧ s.sameOutside p t))

/-- R43, R118: FORCE_OPEN is accepted in CURING and in HELD from CLOSING or CURING; it marks undercured every cavity that is
not complete, ends the cure and goes to OPENING with the open timer full (OPEN deasserted here). Elsewhere it is refused. -/
def Obligations.ForceOpenMarksUndercured : Prop :=
  ∀ (s : State) (p : PressId), s.listening = true →
    ((s.press p).state ≠ .curing → ((s.press p).state ≠ .held ∨
        ((s.press p).prior ≠ some .curing ∧ (s.press p).prior ≠ some .closing)) →
      exec (.forceOpen [pressByte p]) s = .next (refusal 0x24 0x04 0 s)) ∧
    (((s.press p).state = .curing ∨ ((s.press p).state = .held ∧ (s.press p).prior = some .curing)) →
      (s.press p).level .openSw = false →
      ∃ t, exec (.forceOpen [pressByte p]) s = .next t ∧ t.link.reply = some ⟨0x24, [0]⟩ ∧ (t.press p).state = .opening ∧
        (t.press p).prior = none ∧ (t.press p).cure.state ≠ .running ∧
        (t.press p).timers.openT = ((s.press p).config.map fun k => k.openTimeout * 1000) ∧
        (∀ c ∈ s.cavities p, ((t.press p).cure.cavities.get c).undercured
          = (((s.press p).cure.cavities.get c).undercured || !((s.press p).cure.cavities.get c).complete) ∧
          ((t.press p).cure.cavities.get c).complete = ((s.press p).cure.cavities.get c).complete) ∧
        (t.press p).zones = (s.press p).zones ∧ (t.press p).faults = (s.press p).faults ∧ s.sameOutside p t) ∧
    ((s.press p).state = .held → (s.press p).prior = some .closing → (s.press p).level .openSw = false →
      ∃ t, exec (.forceOpen [pressByte p]) s = .next t ∧ t.link.reply = some ⟨0x24, [0]⟩ ∧ (t.press p).state = .opening ∧
        (∀ c ∈ s.cavities p, ((t.press p).cure.cavities.get c).undercured = true) ∧
        (∀ x ∈ t.history.records, x.close = none → x.press = p → x.cure = some ⟨none, none, none, none, 0, [], false, none,
          true, true, true⟩ ∨ x.cure = some ⟨none, none, none, none, 0, [], false, none, true, false, true⟩) ∧ s.sameOutside p t)

/-- R44, R45, R46, R175, R176: ABORT is refused in UNCONFIGURED, IDLE and ABORTING; from PREHEAT and READY it goes to IDLE with
heat mode STANDBY; from a cycle or HELD it closes every OPEN record of the press ABORTED, ends the ejection and the cure, and
goes to ABORTING with the open timer full, or to IDLE with heat mode STANDBY when OPEN is already asserted. No proving run is
in progress here. -/
def Obligations.AbortEndsTheCycle : Prop :=
  ∀ (s : State) (p : PressId), s.listening = true →
    ((s.press p).state = .unconfigured ∨ (s.press p).state = .idle ∨ (s.press p).state = .aborting →
      exec (.abort [pressByte p]) s = .next (refusal 0x25 0x04 0 s)) ∧
    ((s.press p).state = .preheat ∨ (s.press p).state = .ready → (s.press p).run.state ≠ .running →
      exec (.abort [pressByte p]) s = .next (okReply 0x25 [] (queueEntry p .idle (s.updPress p fun pr =>
        Press.entered .idle Timers.none
          (pr.driven { pr with heatMode := .standby, zones := standbyZones pr.config pr.zones }))))) ∧
    ((s.press p).state.inCycle = true ∨ (s.press p).state = .held → (s.press p).run.state ≠ .running →
      ∃ t, exec (.abort [pressByte p]) s = .next t ∧ t.link.reply = some ⟨0x25, [0]⟩ ∧
        (∀ x ∈ t.history.records, x.press = p → x.close ≠ none) ∧
        (∀ (i : Nat) (x x' : PartRecord), s.history.records[i]? = some x → t.history.records[i]? = some x' →
          (x.close = none ∧ x.press = p → ∃ reasons, x'.close = some ⟨.aborted, reasons, s.time⟩) ∧
          (¬(x.close = none ∧ x.press = p) → x' = x)) ∧
        (t.press p).prior = none ∧ (t.press p).cure.state ≠ .running ∧
        ((t.press p).eject.cavities.c0.state ≠ .attempting ∧ (t.press p).eject.cavities.c1.state ≠ .attempting) ∧
        (∀ ch, (t.press p).ejectOut ch = false) ∧
        ((s.press p).level .openSw = false → (t.press p).state = .aborting ∧ (t.press p).heatMode = (s.press p).heatMode ∧
          (t.press p).timers.openT = ((s.press p).config.map fun k => k.openTimeout * 1000) ∧ s.sameOutside p t) ∧
        ((s.press p).level .openSw = true → (t.press p).state = .idle ∧ (t.press p).heatMode = .standby ∧
          (t.press p).pendingBinding = none))

/-- R23, R35 to R37, R45, R47 to R49, R93: HEAT_HOLD and MOTION_HOLD set or release the HOST source of a gate and report all
sources; unconfigured presses refuse them. A MOTION_HOLD release in OPENING may also assert OPEN_CMD (R48), which finishes the
cure summaries (R121). The motion outputs are asserted only in their states and never against the motion inhibit; GUARD lost in
CLOSING, OPENING and EJECTING raises GUARD_OPEN and holds the press, in CURING it raises GUARD_LOST and the cure goes on,
elsewhere it raises nothing. MODEL'S CHOICE (log 14): the six sources stand in one byte in this order, SET is coded 0. -/
def Obligations.GatesHoldsAndGuard : Prop :=
  (∀ (s : State) (p : PressId), s.listening = true →
    ((s.press p).configured = false → ∀ k : Byte, k.toNat ≤ 1 →
      exec (.heatHold [pressByte p, k]) s = .next (refusal 0x26 0x04 0 s) ∧
      exec (.motionHold [pressByte p, k]) s = .next (refusal 0x27 0x04 0 s)) ∧
    ((s.press p).configured = true →
      (∀ set : Bool, exec (.heatHold [pressByte p, if set then 0 else 1]) s = .next (okReply 0x26
        (flags [set, (s.press p).heatFault, !(s.press p).level .heatPermit, (s.press p).hostMotion, (s.press p).motionFault,
          !(s.press p).level .guard]) (s.updPress p fun pr => pr.driven { pr with hostHeat := set }))) ∧
      (∀ set : Bool, set = true ∨ (s.press p).state ≠ .opening →
        exec (.motionHold [pressByte p, if set then 0 else 1]) s = .next (okReply 0x27
          (flags [(s.press p).hostHeat, (s.press p).heatFault, !(s.press p).level .heatPermit, set, (s.press p).motionFault,
            !(s.press p).level .guard]) (s.updPress p fun pr => { pr with hostMotion := set }))) ∧
      ((s.press p).state = .opening → ∃ t, exec (.motionHold [pressByte p, 1]) s = .next t ∧
        t.link.reply = some ⟨0x27, 0 :: flags [(s.press p).hostHeat, (s.press p).heatFault, !(s.press p).level .heatPermit, false,
          (s.press p).motionFault, !(s.press p).level .guard]⟩ ∧
        t.press p = { s.press p with hostMotion := false } ∧ s.sameOutside p t ∧ t.events = s.events)) ∧
    ∀ b k : Byte, b.toNat = 0 ∨ 4 < b.toNat → exec (.heatHold [b, k]) s = .next (refusal 0x26 0x03 1 s) ∧
      exec (.motionHold [b, k]) s = .next (refusal 0x27 0x03 1 s)) ∧
  (∀ pr : Press, (pr.closeCmd = true ∨ pr.openCmd = true) →
    pr.level .guard = true ∧ pr.hostMotion = false ∧ pr.faults.active = [] ∧
    (pr.closeCmd = true → pr.state = .closing) ∧ (pr.openCmd = true → pr.state = .opening ∨ pr.state = .aborting)) ∧
  (∀ pr : Press, (pr.loadCmd = true ↔ pr.state = .loading) ∧ ∀ ch, pr.ejectOut ch = true → pr.state = .ejecting) ∧
  (∀ (s : State) (p : PressId), s.pressFilter ≤ ((s.press p).inputs.get .guard).stable →
    ((s.press p).inputs.get .guard).raw = false → (s.press p).level .guard = true →
    ((s.press p).state = .closing ∨ (s.press p).state = .opening ∨ (s.press p).state = .ejecting →
      ∃ t, exec (.pressInputAccepted p .guard) s = .next t ∧ (t.press p).state = .held ∧
        (t.press p).prior = some (s.press p).state ∧ (t.press p).hasFault .guardOpen .none ∧ (t.press p).motionInhibit = true ∧
        (∀ ch, (t.press p).ejectOut ch = false) ∧ s.sameOutside p t) ∧
    ((s.press p).state = .curing →
      ∃ t, exec (.pressInputAccepted p .guard) s = .next t ∧ (t.press p).state = .curing ∧
        (t.press p).faults.active = (s.press p).faults.active ∧ (t.press p).cure = (s.press p).cure ∧ s.sameOutside p t ∧
        ((s.press p).faults.quiet.contains .guardLost = false → s.events.disabled.contains .fault = false →
          s.events.queue.length < 64 → t.events.queue
            = s.events.queue ++ [⟨.fault, some p, .fault .guardLost .advisory .none, none, s.time⟩])) ∧
    ((s.press p).state = .loading ∨ (s.press p).state = .clearing ∨ (s.press p).state = .aborting →
      exec (.pressInputAccepted p .guard) s = .next (s.updPress p fun pr =>
        { pr with inputs := pr.inputs.upd .guard fun f => ⟨f.raw, f.stable, f.raw⟩ })))

/-- R50, R152, R153: AUTO sets the two flags; with neither flag turned on nothing else changes but a history-full flag that
goes with autoLoad; turning autoOrder on places orders until none may be placed. -/
def Obligations.AutoSetsTheFlags : Prop :=
  ∀ (s : State) (p : PressId) (load order : Bool), s.listening = true → (s.press p).configured = true →
    ((load = true → (s.press p).autoLoad = true) → (order = true → (s.press p).autoOrder = true) →
      exec (.auto [pressByte p, BitVec.ofNat 8 (load.toNat + 2 * order.toNat)]) s = .next (okReply 0x28 [] (s.updPress p fun pr =>
        { pr with autoLoad := load, autoOrder := order, historyFull := pr.historyFull && (load || !pr.autoLoad) }))) ∧
    ((s.press p).autoOrder = false → order = true → (load = true → (s.press p).autoLoad = true) →
      ∃ t, exec (.auto [pressByte p, BitVec.ofNat 8 (load.toNat + 2)]) s = .next t ∧ t.link.reply = some ⟨0x28, [0]⟩ ∧
        (t.press p).autoLoad = load ∧ (t.press p).autoOrder = true ∧ s.orders <+: t.orders ∧
        (∀ c, t.mayOrder p c = false) ∧ (∀ c, t.supply p c ≤ max 2 (s.supply p c)) ∧
        (∀ o ∈ t.orders.drop s.orders.length, o.press = p ∧ o.attempts = 0) ∧ t.history = s.history ∧
        ∀ q, q ≠ p → t.press q = s.press q)

/-- R33: what a re-examination of auto-load does: nothing with autoLoad off; exactly what LOAD does where its checks pass; with
too few free places alone in the way, HISTORY_FULL once, with the history-full flag set; and a flag cleared where there are
places enough. AUTO that turns autoLoad on, an entry to READY that stands, a HISTORY_RELEASE that frees a record and the end of a
proving run re-examine it (a charge placed: AttemptMakesACharge). MODEL'S CHOICE (log 16): the free-place check passes also in a
re-examination that fails an earlier check, for a press with a bound recipe. -/
def Obligations.AutoLoadIsReexamined : Prop :=
  ∀ (s : State) (p : PressId),
    (s.autoLoadOff p → examineAutoLoad p s = s) ∧
    (∀ r ref, (s.press p).autoLoad = true → (s.press p).bound = some ref → s.boundRecipe p = some r →
      let cs := cavitiesOf r.header.cavities
      let loadable := (s.press p).state = .ready ∧ (s.press p).run.state ≠ .running ∧
        ∀ c ∈ cs, ∃ ch rest, (s.press p).staging.get c = ch :: rest ∧ ch.recipe = ref
      (loadable → cs.length ≤ s.history.free → s.listening = true →
        ∃ fields, exec (.load [pressByte p]) s = .next (okReply 0x22 fields (examineAutoLoad p s))) ∧
      (loadable → s.history.free < cs.length →
        ((s.press p).historyFull = true → examineAutoLoad p s = s) ∧
        ((s.press p).historyFull = false → examineAutoLoad p s
          = queueEvent .historyFull (some p) .none none (s.updPress p fun pr => { pr with historyFull := true }))) ∧
      (¬loadable → cs.length ≤ s.history.free →
        examineAutoLoad p s = s.updPress p fun pr => { pr with historyFull := false }) ∧
      (¬loadable → s.history.free < cs.length → examineAutoLoad p s = s)) ∧
    (∀ order : Bool, s.listening = true → (s.press p).configured = true → s.autoLoadOff p →
      (order = true → (s.press p).autoOrder = true) →
      exec (.auto [pressByte p, BitVec.ofNat 8 (1 + 2 * order.toNat)]) s = .next (okReply 0x28 [] (examineAutoLoad p
        (s.updPress p fun pr => { pr with autoLoad := true, autoOrder := order })))) ∧
    (∀ r n, (s.press p).state = .preheat → (s.press p).readyRun = some n → s.boundRecipe p = some r →
      r.heat.readyDwell * 1000 ≤ n → s.allInBand p = true →
      exec (.readyDwellReached p) s
        = .next (examineAutoLoad p (queueEntry p .ready (s.updPress p (Press.entered .ready Timers.none))))) ∧
    (∀ serial : Nat, s.listening = true → serial < 4294967296 →
      (∃ x ∈ s.history.records, x.close.isSome = true ∧ x.serial ≤ serial) →
      ∃ fields, exec (.historyRelease (u32 serial)) s = .next (okReply 0x73 fields
        (allPresses.foldl (fun u q => examineAutoLoad q u) { s with history := { s.history with
          records := s.history.records.filter fun x => !(x.close.isSome && decide (x.serial ≤ serial)) } }))) ∧
    (s.listening = true → (s.press p).run.state = .running →
      ∃ u, exec (.proveStop [pressByte p]) s = .next (okReply 0x34 [] (examineAutoLoad p u)) ∧
        (u.press p).run.state = .stopped ∧ (u.press p).autoLoad = (s.press p).autoLoad)

/-- R28 to R30, R40, R45, R63, R117: the ready dwell sends PREHEAT to READY. The zone update that follows the second position of a
zone tests the band: with every zone in band the ready run starts in PREHEAT, or goes on, and READY stands; with a zone out of
band or without a value the run is cancelled, and READY goes to PREHEAT with PRESS_STATE (no proving run is in progress). An expired timeout timer raises its STOP fault and sends
the press to HELD, but in ABORTING the press stays, its open timer full again and OPEN_CMD held off. A cure timer that runs out
is EXPIRED and raises CURE_TIMEOUT for the first cavity that is not complete, which holds a press in CURING, and raises nothing
where every cavity is complete. MODEL'S CHOICE: that an expiry command of a cure timer that has not run out changes nothing
(log 3); that at a zone update which also makes a mismatch condition present the PRESS_STATE stands behind SENSOR_MISMATCH
(log 56). -/
def Obligations.TimersRunOut : Prop :=
  (∀ (s : State) (p : PressId),
    (∀ r t, (s.press p).state = .preheat → (s.press p).readyRun = some t → s.boundRecipe p = some r →
      r.heat.readyDwell * 1000 ≤ t → s.allInBand p = true → s.autoLoadOff p →
      exec (.readyDwellReached p) s = .next (queueEntry p .ready (s.updPress p (Press.entered .ready Timers.none)))) ∧
    (∀ (i : Nat) (r : Recipe) (x : StreamReading), (s.press p).state = .preheat ∨ (s.press p).state = .ready →
      s.boundRecipe p = some r → (s.press p).run.state ≠ .running → (s.press p).streamPos = some (2 * i + 1) →
      2 * i + 1 < (s.press p).positions →
      ∃ t, exec (.temperatureReading p x) s = .next t ∧ (t.press p).heatMode = (s.press p).heatMode ∧
        (r.heat.inBand (t.press p) → (t.press p).state = (s.press p).state ∧
          ((s.press p).state = .preheat → (t.press p).readyRun = some ((s.press p).readyRun.getD 0))) ∧
        (¬r.heat.inBand (t.press p) → (t.press p).state = .preheat ∧ (t.press p).readyRun = none ∧
          ((s.press p).state = .ready → (t.press p).timers = Timers.none ∧
            (.pressState ∉ s.events.disabled → t.events.endsWith ⟨.pressState, some p, .pressState .preheat none, none, s.time⟩)))) ∧
    (∀ st k code, (st, k, code) ∈ [(PressState.loading, TimeoutTimer.loadT, FaultCode.loadTimeout),
        (.closing, .closeT, .closeTimeout), (.opening, .openT, .openTimeout), (.clearing, .clearT, .clearTimeout)] →
      (s.press p).state = st → (s.press p).timers.get k = some 0 →
      ((st = .closing ∨ st = .opening) → (s.press p).motionInhibit = false) →
      ∃ u, exec (.timeoutTimerExpiry p k) s = .next u ∧ (u.press p).state = .held ∧ (u.press p).prior = some st ∧
        (u.press p).timers = Timers.none ∧ (u.press p).hasFault code .none ∧ (u.press p).heatMode = (s.press p).heatMode ∧
        (u.press p).zones = (s.press p).zones ∧ s.sameOutside p u) ∧
    (∀ c, (s.press p).state = .aborting → (s.press p).config = some c → (s.press p).timers.openT = some 0 →
      (s.press p).motionInhibit = false →
      ∃ u, exec (.timeoutTimerExpiry p .openT) s = .next u ∧ (u.press p).state = .aborting ∧
        (u.press p).timers = { Timers.none with openT := some (c.openTimeout * 1000) } ∧
        (u.press p).hasFault .openTimeout .none ∧ (u.press p).openCmd = false ∧ s.sameOutside p u)) ∧
  ∀ (s : State) (p : PressId) (r : Recipe), s.boundRecipe p = some r →
    (((s.press p).cure.state ≠ .running ∨ (s.press p).cure.timer ≠ .running 0) → exec (.cureTimerExpiry p) s = .next s) ∧
    ((s.press p).cure.state = .running → (s.press p).cure.timer = .running 0 → ∀ c,
      (c = .c0 ∨ (r.header.cavities = 2 ∧ ((s.press p).cure.cavities.get .c0).complete = true)) →
      ((s.press p).cure.cavities.get c).complete = false →
      ∃ t, exec (.cureTimerExpiry p) s = .next t ∧ (t.press p).cure = { (s.press p).cure with timer := .expired } ∧
        (t.press p).hasFault .cureTimeout (.cavity c) ∧ (t.press p).zones = (s.press p).zones ∧
        ((s.press p).state = .curing → (t.press p).state = .held ∧ (t.press p).prior = some .curing) ∧ s.sameOutside p t) ∧
    ((s.press p).cure.state = .running → (s.press p).cure.timer = .running 0 →
      (∀ c ∈ cavitiesOf r.header.cavities, ((s.press p).cure.cavities.get c).complete = true) →
      exec (.cureTimerExpiry p) s = .next (s.updPress p fun pr => { pr with cure := { pr.cure with timer := .expired } }))

/-! ## Inputs -/

/-- R22, R133: a raw change with a filter time counts from 0 and moves nothing else, and with a filter time of 0 it is accepted
at once, as the acceptance command would have it; an accepted level takes the raw level,
and with PERMIT the drive duties of the press follow (R47, R93); in the states that wait for no input nothing else happens. R134,
R139: TRAY_PRESENT accepted-deasserted takes the station from UNLOADING to IDLE, where the next attempt waits for a tray, and
accepted-asserted in IDLE with an order waiting it starts the attempt. That an acceptance command of an input that is not due
changes nothing is the model's choice (log 3). -/
def Obligations.InputsPassTheFilter : Prop :=
  ∀ s : State,
    (∀ p k level, s.pressFilter ≠ 0 → exec (.pressInputRawChange p k level) s = .next (s.updPress p fun pr =>
      { pr with inputs := pr.inputs.upd k fun f => if f.raw = level then f else ⟨level, 0, f.accepted⟩ })) ∧
    (∀ p k level, s.pressFilter = 0 →
      (∃ t, exec (.pressInputRawChange p k level) s = .next t ∧ (t.press p).level k = level ∧
        ((t.press p).inputs.get k).raw = level) ∧
      exec (.pressInputRawChange p k level) s = exec (.pressInputAccepted p k) (s.updPress p fun pr =>
        { pr with inputs := pr.inputs.upd k fun f => if f.raw = level then f else ⟨level, 0, f.accepted⟩ })) ∧
    (∀ level, s.weigh.filter = 0 →
      (∃ t, exec (.trayPresentRawChange level) s = .next t ∧ t.weigh.tray.accepted = level ∧ t.weigh.tray.raw = level) ∧
      exec (.trayPresentRawChange level) s = exec .trayPresentAccepted { s with weigh := { s.weigh with
        tray := if s.weigh.tray.raw = level then s.weigh.tray else ⟨level, 0, s.weigh.tray.accepted⟩ } }) ∧
    (∀ p k, ((s.press p).inputs.get k).stable < s.pressFilter ∨ ((s.press p).inputs.get k).raw = (s.press p).level k →
      exec (.pressInputAccepted p k) s = .next s) ∧
    (∀ p k, s.pressFilter ≤ ((s.press p).inputs.get k).stable → ((s.press p).inputs.get k).raw ≠ (s.press p).level k →
      ((s.press p).state = .unconfigured ∨ (s.press p).state = .idle ∨ (s.press p).state = .preheat ∨
        (s.press p).state = .ready ∨ (s.press p).state = .held ∨ k = .heatPermit) →
      exec (.pressInputAccepted p k) s = .next (s.updPress p fun pr =>
        pr.driven { pr with inputs := pr.inputs.upd k fun f => ⟨f.raw, f.stable, f.raw⟩ })) ∧
    (∀ level, s.weigh.filter ≠ 0 → exec (.trayPresentRawChange level) s = .next { s with weigh := { s.weigh with
      tray := if s.weigh.tray.raw = level then s.weigh.tray else ⟨level, 0, s.weigh.tray.accepted⟩ } }) ∧
    (s.weigh.tray.stable < s.weigh.filter ∨ s.weigh.tray.raw = s.weigh.tray.accepted → exec .trayPresentAccepted s = .next s) ∧
    (s.weigh.filter ≤ s.weigh.tray.stable → s.weigh.tray.raw ≠ s.weigh.tray.accepted →
      ((s.weigh.tray.raw = true ∧ (s.orders = [] ∨ s.weigh.state ≠ .idle)) ∨
        (s.weigh.tray.raw = false ∧ s.weigh.build = none ∧ s.weigh.state ≠ .unloading)) →
      exec .trayPresentAccepted s = .next { s with weigh := { s.weigh with
        tray := ⟨s.weigh.tray.raw, s.weigh.tray.stable, s.weigh.tray.raw⟩ } }) ∧
    (s.weigh.filter ≤ s.weigh.tray.stable → s.weigh.tray.raw = false → s.weigh.tray.accepted = true → s.weigh.state = .unloading →
      exec .trayPresentAccepted s = .next { s with weigh := { s.weigh with
        tray := ⟨false, s.weigh.tray.stable, false⟩, state := .idle } }) ∧
    (∀ o rest, s.orders = o :: rest → s.weigh.state = .idle → s.weigh.tray.raw = true → s.weigh.tray.accepted = false →
      s.weigh.filter ≤ s.weigh.tray.stable →
      exec .trayPresentAccepted s = .next { s with weigh := { s.weigh with
        tray := ⟨true, s.weigh.tray.stable, true⟩, state := .taring, averages := []
        build := some ⟨o.number, o.press, o.cavity, o.recipe, o.attempts + 1, none, none, 1, 0, []⟩ } })

/-- R19, R20, R34, R35, R37, R38, R45, R46, R108, R117, R159, R160, R163, R166: what an input that becomes accepted-asserted does in the state that
waits for it. A pending binding is applied on the way out of CLEARING, and then the press goes to PREHEAT, and on the way from
ABORTING to IDLE. The OPEN records get a demould summary on the way into EJECTING, with all parts free as well, where the press
goes on to CLEARING at once, and it follows the release. MODEL'S CHOICE (log 69): a new cure clears the items of cavity 1 under a
one-cavity recipe too. -/
def Obligations.InputsMoveTheCycle : Prop :=
  ∀ (s : State) (p : PressId) (k : PressInput), s.pressFilter ≤ ((s.press p).inputs.get k).stable →
    ((s.press p).inputs.get k).raw = true → (s.press p).level k = false →
    (k = .loadedSw → (s.press p).state = .loading → (s.press p).level .closedSw = false →
      ∃ t, exec (.pressInputAccepted p k) s = .next t ∧ (t.press p).state = .closing ∧ (t.press p).loadCmd = false ∧
        (t.press p).timers = { Timers.none with closeT := (s.press p).config.map fun c => c.closeTimeout * 1000 } ∧
        (t.press p).zones = (s.press p).zones ∧ t.history = s.history ∧ s.sameOutside p t) ∧
    (∀ r, k = .closedSw → (s.press p).state = .closing → s.boundRecipe p = some r →
      ∃ t, exec (.pressInputAccepted p k) s = .next t ∧ (t.press p).state = .curing ∧ (t.press p).timers = Timers.none ∧
        (t.press p).zones = ((s.press p).zones.map fun z => { z with dose := 0, residue := 0 }) ∧
        (t.press p).cure.state = .running ∧ (t.press p).cure.timer = .running (r.cure.maxTime * 1000) ∧
        (t.press p).cure.closedTime = some s.time ∧ (t.press p).cure.ticks = 0 ∧ (t.press p).cure.nextTick = some r.cure.period ∧
        (∀ c, (t.press p).cure.cavities.get c = ⟨false, none, 0, none, [], false, false⟩) ∧ s.sameOutside p t) ∧
    (∀ r, k = .openSw → (s.press p).state = .opening → s.boundRecipe p = some r →
      (∃ c ∈ cavitiesOf r.header.cavities, (s.press p).level (partFree c) = false) →
      ∃ t, exec (.pressInputAccepted p k) s = .next t ∧ (t.press p).state = .ejecting ∧ (t.press p).timers = Timers.none ∧
        (∀ c ∈ cavitiesOf r.header.cavities,
          ((s.press p).level (partFree c) = true → ((t.press p).eject.cavities.get c).state = .released ∧
            ((t.press p).eject.cavities.get c).releaseTime = some 0) ∧
          ((s.press p).level (partFree c) = false → ((t.press p).eject.cavities.get c).state = .attempting ∧
            ((t.press p).eject.cavities.get c).totalAttempts = 1 ∧
            ((t.press p).eject.cavities.get c).timer = some r.eject.releaseTimeout)) ∧ s.demouldCreated p t ∧ s.sameOutside p t) ∧
    (∀ r, k = .openSw → (s.press p).state = .opening → s.boundRecipe p = some r → (s.press p).level .unloadedSw = false →
      (∀ c ∈ cavitiesOf r.header.cavities, (s.press p).level (partFree c) = true) →
      ∃ t, exec (.pressInputAccepted p k) s = .next t ∧ (t.press p).state = .clearing ∧
        (t.press p).timers = { Timers.none with clearT := (s.press p).config.map fun c => c.clearTimeout * 1000 } ∧
        (∀ c ∈ cavitiesOf r.header.cavities,
          (t.press p).eject.cavities.get c = ⟨.released, 0, 0, none, none, 0, 0, some 0, none, false⟩) ∧
        s.demouldCreated p t ∧ s.sameOutside p t) ∧
    (k = .unloadedSw → (s.press p).state = .clearing → (s.press p).pendingBinding = none → s.autoLoadOff p →
      ∃ t, exec (.pressInputAccepted p k) s = .next t ∧
        (t.press p).state = (if s.allInBand p then .ready else .preheat) ∧ (t.press p).timers = Timers.none ∧
        (∀ x ∈ t.history.records, x.press = p → x.close ≠ none) ∧
        t.history.records.length = s.history.records.length ∧ t.history.counter = s.history.counter ∧ s.sameOutside p t) ∧
    (k = .openSw → (s.press p).state = .aborting → (s.press p).pendingBinding = none →
      ∃ t, exec (.pressInputAccepted p k) s = .next t ∧ (t.press p).state = .idle ∧ (t.press p).heatMode = .standby ∧
        (t.press p).zones = standbyZones (s.press p).config (s.press p).zones ∧ t.history = s.history ∧ s.sameOutside p t) ∧
    (∀ ref, (s.press p).pendingBinding = some ref →
      (k = .unloadedSw ∧ (s.press p).state = .clearing) ∨ (k = .openSw ∧ (s.press p).state = .aborting) →
      ∃ t, exec (.pressInputAccepted p k) s = .next t ∧ (t.press p).bound = some ref ∧ (t.press p).pendingBinding = none ∧
        (t.press p).timers = Timers.none ∧ t.history.records.length = s.history.records.length ∧
        t.history.counter = s.history.counter ∧ t.recipes = s.recipes ∧ (∀ q, q ≠ p → t.press q = s.press q) ∧
        (∀ c, (t.press p).staging.get c = ((s.press p).staging.get c).filter fun ch => decide (ch.recipe = ref)) ∧
        (∀ o ∈ t.orders, o.press = p → o.recipe = ref) ∧
        ((s.press p).state = .clearing → (t.press p).state = .preheat ∧ (t.press p).heatMode = (s.press p).heatMode ∧
          (∀ x ∈ t.history.records, x.press = p → x.close ≠ none) ∧
          ∀ r, s.recipes.find ref.id = some r → (s.press p).heatMode = .run → r.ramp = none →
            ∀ (i : Nat) (z : Zone), (t.press p).zones[i]? = some z → z.spe = r.heat.setpoints[i]?) ∧
        ((s.press p).state = .aborting → (t.press p).state = .idle ∧ (t.press p).heatMode = .standby ∧
          (t.press p).zones = standbyZones (s.press p).config (s.press p).zones ∧ t.history = s.history)) ∧
    (∀ r c, k = partFree c → (s.press p).state = .ejecting → s.boundRecipe p = some r → c ∈ cavitiesOf r.header.cavities →
      ((s.press p).eject.cavities.get c).state = .attempting →
      ∃ t, exec (.pressInputAccepted p k) s = .next t ∧ ((t.press p).eject.cavities.get c).state = .released ∧
        ((t.press p).eject.cavities.get c).timer = none ∧
        ((t.press p).eject.cavities.get c).releaseTime
          = (((s.press p).eject.cavities.get c).start.map fun x => (s.time - x).toNat) ∧
        ((t.press p).state = .ejecting ∨ (t.press p).state = .clearing ∨ (s.press p).level .unloadedSw = true) ∧
        s.demouldFollows p t)

/-! ## Sensing -/

/-- R57, R61, R62, R64: a good reading of an OK or DOUBTFUL sensor is its last good reading and makes it OK; a bad one counts,
the third in a row making it FAILED with ZONE_SPARED, or SENSOR_FAILED, logged on the press; no other sensor changes. A good reading
gives the zone a source, and the blind hold of the zone is STOPPED at that moment (R92). There no
proving run is in progress and the position's readings are not discarded. R58, R62, R77: a reading of an unfitted position, of a
FAILED sensor or of a position whose readings are discarded after a run changes no sensor and logs nothing, whatever it reads; a
run in progress may go on, but that its last position does not close the scan. -/
def Obligations.ReadingsAreJudged : Prop :=
  (∀ (s : State) (p : PressId) (n : Nat) (z : Zone) (x : Sensor), (s.press p).configured = true →
    (s.press p).streamPos = some n → n < (s.press p).positions → (s.press p).zones[n / 2]? = some z →
    x = (if n % 2 = 0 then z.primary else z.spare) → (if n % 2 = 0 then z.primaryFitted else z.spareFitted) = true →
    x.state = .ok ∨ x.state = .doubtful → (s.press p).run.state ≠ .running → (∀ d ∈ (s.press p).run.discard, d.1 ≠ posAt n) →
    (∀ t : Int, -200 ≤ t → t ≤ 3500 → (∀ g, x.lastGood = some g → g - 300 ≤ t ∧ t ≤ g + 300) →
      ∃ u, exec (.temperatureReading p (.value t)) s = .next u ∧ (u.press p).sensorAt (posAt n) = ⟨.ok, some t, 0⟩ ∧
        (∀ z', (u.press p).zones[n / 2]? = some z' → z'.source ≠ .none ∧ z'.hold = .stopped) ∧
        sensorsKept (· = posAt n) (s.press p) (u.press p) ∧
        (u.press p).streamPos = (if n + 1 < (s.press p).positions then some (n + 1) else none)) ∧
    (∀ r : StreamReading, (∀ t, r = .value t → t < -200 ∨ 3500 < t ∨ ∃ g, x.lastGood = some g ∧ (t < g - 300 ∨ g + 300 < t)) →
      ∃ u, exec (.temperatureReading p r) s = .next u ∧
        (x.bad < 2 → (u.press p).sensorAt (posAt n) = ⟨.doubtful, x.lastGood, x.bad + 1⟩) ∧
        (2 ≤ x.bad → ((u.press p).sensorAt (posAt n)).state = .failed ∧ ((u.press p).sensorAt (posAt n)).bad = 3 ∧
          ((s.press p).faults.first = none → ∃ f, (u.press p).faults.first = some f ∧ f.qual = .zone (n / 2) ∧ f.cls = .degrade ∧
            f.code = (if n % 2 = 0 ∧ z.spare.usable = true then .zoneSpared else .sensorFailed))) ∧
        sensorsKept (· = posAt n) (s.press p) (u.press p) ∧
        (u.press p).streamPos = (if n + 1 < (s.press p).positions then some (n + 1) else none))) ∧
  ∀ (s : State) (p : PressId) (n : Nat) (r : StreamReading), (s.press p).configured = true →
    (s.press p).streamPos = some n → n < (s.press p).positions →
    ((s.press p).run.state ≠ .running ∨ n + 1 < (s.press p).positions) →
    ((s.press p).fittedAt (posAt n) = false ∨ ((s.press p).sensorAt (posAt n)).state = .failed ∨
      ∃ d ∈ (s.press p).run.discard, d.1 = posAt n) →
    ∃ u, exec (.temperatureReading p r) s = .next u ∧ sensorsKept (fun _ => False) (s.press p) (u.press p) ∧
      (u.press p).faults = (s.press p).faults ∧
      (u.press p).streamPos = (if n + 1 < (s.press p).positions then some (n + 1) else none)

/-- R58 to R60, R74, R94: a scan marker opens a scan at position 0 and restarts the overdue timer at 250 ms, with the next level
of a run in progress sent on the drive stream; a marker inside an open scan closes it with an ERR reading for every fitted
position that is left, from the stream position on, judged as a reading that arrived;
an expired overdue timer closes the scan, restarts at 100 ms and judges an ERR
for every fitted sensor that is OK or DOUBTFUL, whatever the state of the others: with no run in progress no reading is compared
with a level (R75). Excepted are the positions whose readings are discarded after a run (R77 step 6): an ERR given by a marker or an
overdue expiry changes nothing there, which is the model's choice (log 20). An unconfigured press ignores its stream. That an
overdue expiry command that is not due changes nothing is the model's choice (log 3). -/
def Obligations.ScansOpenAndFallDue : Prop :=
  ∀ (s : State) (p : PressId),
    ((s.press p).configured = false → exec (.scanMarker p) s = .next s ∧ ∀ r, exec (.temperatureReading p r) s = .next s) ∧
    ((s.press p).configured = true → (s.press p).streamPos = none →
      (∀ r, exec (.temperatureReading p r) s = .next s) ∧
      ((s.press p).run.state ≠ .running → exec (.scanMarker p) s = .next (s.updPress p fun pr =>
        { pr with streamPos := some 0, overdue := some 250 })) ∧
      (∀ x, (s.press p).run.state = .running → (s.press p).run.params = some x →
        exec (.scanMarker p) s = .next (s.updPress p fun pr =>
          { pr with
            streamPos := some 0, overdue := some 250
            run := { pr.run with
              inScan := true, command := some ⟨x.selection, x.pattern.getD ((pr.run.index + 1) % 4) 0⟩ }
            drive := pr.drive ++ [.reference ⟨x.selection, x.pattern.getD ((pr.run.index + 1) % 4) 0⟩] }))) ∧
    ((s.press p).configured = true →
      ∃ t, exec (.scanMarker p) s = .next t ∧ (t.press p).streamPos = some 0 ∧ (t.press p).overdue = some 250) ∧
    (∀ n, (s.press p).configured = true → (s.press p).streamPos = some n → (s.press p).run.state ≠ .running →
      ∃ t, exec (.scanMarker p) s = .next t ∧ (t.press p).streamPos = some 0 ∧ (t.press p).overdue = some 250 ∧
        (∀ m, n ≤ m → m < (s.press p).positions → (s.press p).takesReading (posAt m) →
          (((s.press p).sensorAt (posAt m)).bad < 2 → (t.press p).sensorAt (posAt m)
            = ⟨.doubtful, ((s.press p).sensorAt (posAt m)).lastGood, ((s.press p).sensorAt (posAt m)).bad + 1⟩) ∧
          (2 ≤ ((s.press p).sensorAt (posAt m)).bad → ((t.press p).sensorAt (posAt m)).state = .failed)) ∧
        sensorsKept (fun k => (s.press p).takesReading k ∧ ∃ m, n ≤ m ∧ m < (s.press p).positions ∧ k = posAt m)
          (s.press p) (t.press p)) ∧
    ((s.press p).overdue ≠ some 0 → exec (.overdueExpiry p) s = .next s) ∧
    ((s.press p).configured = true → (s.press p).overdue = some 0 → (s.press p).run.state ≠ .running →
      ∃ t, exec (.overdueExpiry p) s = .next t ∧ (t.press p).streamPos = none ∧ (t.press p).overdue = some 100 ∧
        sensorsKept (s.press p).takesReading (s.press p) (t.press p) ∧
        ∀ k, (s.press p).takesReading k →
          (((s.press p).sensorAt k).bad < 2 → (t.press p).sensorAt k
            = ⟨.doubtful, ((s.press p).sensorAt k).lastGood, ((s.press p).sensorAt k).bad + 1⟩) ∧
          (2 ≤ ((s.press p).sensorAt k).bad → ((t.press p).sensorAt k).state = .failed))

/-- R67: the comparison of a zone's two sensors at the zone update that follows a scan, here after a good reading of the spare
position: differing, agreeing, and, after a bad one or with a primary that is not OK, neither; each count, the condition, and
SENSOR_MISMATCH where the condition becomes present. An overdue expiry leaves no sensor OK, so the running count returns to 0.
No proving run is in progress and no reading of the zone is discarded. -/
def Obligations.SensorsAreCompared : Prop :=
  ∀ (s : State) (p : PressId) (i : Nat) (z : Zone) (cfg : PressConfig), (s.press p).config = some cfg →
    (s.press p).configured = true → (s.press p).zones[i]? = some z → (s.press p).run.state ≠ .running →
    (∀ d ∈ (s.press p).run.discard, d.1.zone ≠ i) →
    ((s.press p).streamPos = some (2 * i + 1) → z.spareFitted = true → z.spare.state = .ok ∨ z.spare.state = .doubtful →
      (∀ a T : Int, z.primary.state = .ok → z.primary.lastGood = some a → -200 ≤ T → T ≤ 3500 →
        (∀ g, z.spare.lastGood = some g → g - 300 ≤ T ∧ T ≤ g + 300) →
        ∃ t z', exec (.temperatureReading p (.value T)) s = .next t ∧ (t.press p).zones[i]? = some z' ∧
          z'.primary = z.primary ∧ z'.spare = ⟨.ok, some T, 0⟩ ∧
          (cfg.mismatchBand < a - T ∨ cfg.mismatchBand < T - a →
            (z.mismatch = false → z.mismatchRun < 9 →
              z'.mismatch = false ∧ z'.mismatchRun = z.mismatchRun + 1 ∧ z'.agreeRun = z.agreeRun) ∧
            (z.mismatch = false → 9 ≤ z.mismatchRun → z'.mismatch = true ∧ z'.mismatchRun = 0 ∧ z'.agreeRun = 0 ∧
              ((s.press p).state ≠ .preheat → (s.press p).state ≠ .ready →
                t.events = (raiseFault (.press p) .sensorMismatch (.zone i) s).events)) ∧
            (z.mismatch = true → z'.mismatch = true ∧ z'.mismatchRun = z.mismatchRun ∧ z'.agreeRun = 0)) ∧
          (a - T ≤ cfg.mismatchBand ∧ T - a ≤ cfg.mismatchBand →
            (z.mismatch = false → z'.mismatch = false ∧ z'.mismatchRun = 0 ∧ z'.agreeRun = z.agreeRun) ∧
            (z.mismatch = true → z.agreeRun < 9 →
              z'.mismatch = true ∧ z'.mismatchRun = z.mismatchRun ∧ z'.agreeRun = z.agreeRun + 1) ∧
            (z.mismatch = true → 9 ≤ z.agreeRun → z'.mismatch = false ∧ z'.mismatchRun = 0 ∧ z'.agreeRun = 0)) ∧
          ((s.press p).state ≠ .preheat → (s.press p).state ≠ .ready →
            (z.mismatch = true ∨ z.mismatchRun < 9 ∨ (a - T ≤ cfg.mismatchBand ∧ T - a ≤ cfg.mismatchBand)) →
            t.events = s.events)) ∧
      (∀ r : StreamReading, (z.primary.state ≠ .ok ∨ ∀ T, r = .value T →
          T < -200 ∨ 3500 < T ∨ ∃ g, z.spare.lastGood = some g ∧ (T < g - 300 ∨ g + 300 < T)) →
        ∃ t z', exec (.temperatureReading p r) s = .next t ∧ (t.press p).zones[i]? = some z' ∧ z'.mismatch = z.mismatch ∧
          (z.mismatch = false → z'.mismatchRun = 0 ∧ z'.agreeRun = z.agreeRun) ∧
          (z.mismatch = true → z'.agreeRun = 0 ∧ z'.mismatchRun = z.mismatchRun))) ∧
    ((s.press p).overdue = some 0 → z.primaryFitted = true ∨ z.spareFitted = true →
      ∃ t z', exec (.overdueExpiry p) s = .next t ∧ (t.press p).zones[i]? = some z' ∧ z'.mismatch = z.mismatch ∧
        (z.mismatch = false → z'.mismatchRun = 0 ∧ z'.agreeRun = z.agreeRun) ∧
        (z.mismatch = true → z'.agreeRun = 0 ∧ z'.mismatchRun = z.mismatchRun))

/-- R66: RESTORE_SENSOR makes a FAILED sensor DOUBTFUL with no last good reading and changes no other sensor; it is refused
for a PROVING sensor with BUSY, for an OK or DOUBTFUL one and an unconfigured press with BAD_STATE, and for a zone or
position that is not there with BAD_ARG. -/
def Obligations.RestoreSensorRestores : Prop :=
  ∀ (s : State) (p : PressId) (z : Byte) (pos : Position), s.listening = true →
    ((s.press p).configured = false → exec (.restoreSensor [pressByte p, z, positionByte pos]) s = .next (refusal 0x31 0x04 0 s)) ∧
    ((s.press p).configured = true →
      ((s.press p).zoneCount ≤ z.toNat →
        exec (.restoreSensor [pressByte p, z, positionByte pos]) s = .next (refusal 0x31 0x03 2 s)) ∧
      (z.toNat < (s.press p).zoneCount → (s.press p).fittedAt ⟨z.toNat, pos⟩ = false →
        exec (.restoreSensor [pressByte p, z, positionByte pos]) s = .next (refusal 0x31 0x03 3 s)) ∧
      (z.toNat < (s.press p).zoneCount → (s.press p).fittedAt ⟨z.toNat, pos⟩ = true →
        (((s.press p).sensorAt ⟨z.toNat, pos⟩).state = .proving →
          exec (.restoreSensor [pressByte p, z, positionByte pos]) s = .next (refusal 0x31 0x05 0 s)) ∧
        (((s.press p).sensorAt ⟨z.toNat, pos⟩).state = .ok ∨ ((s.press p).sensorAt ⟨z.toNat, pos⟩).state = .doubtful →
          exec (.restoreSensor [pressByte p, z, positionByte pos]) s = .next (refusal 0x31 0x04 0 s)) ∧
        (((s.press p).sensorAt ⟨z.toNat, pos⟩).state = .failed →
          ∃ t, exec (.restoreSensor [pressByte p, z, positionByte pos]) s = .next t ∧ t.link.reply = some ⟨0x31, [0]⟩ ∧
            (t.press p).sensorAt ⟨z.toNat, pos⟩ = ⟨.doubtful, none, 0⟩ ∧
            sensorsKept (· = ⟨z.toNat, pos⟩) (s.press p) (t.press p) ∧ (t.press p).faults = (s.press p).faults ∧
            (t.press p).zones.map Zone.source = (s.press p).zones.map Zone.source ∧ s.sameOutside p t))) ∧
    ∀ b q : Byte, b.toNat = 0 ∨ 4 < b.toNat → exec (.restoreSensor [b, z, q]) s = .next (refusal 0x31 0x03 1 s)

/-- R71 to R77: an accepted PROVE_START begins a run over the selection in zone order, every selected sensor PROVING;
the blind hold of a selected zone is STOPPED (R92), and a zone that loses its value cancels the ready run and takes READY to PREHEAT
(R29, R30). PROVE_STOP ends it STOPPED with its failing sensors FAILED and the other selected ones DOUBTFUL, PROVE_FAIL where there
is a failing sensor and then PROVE_DONE with STOPPED, and is refused with no run in progress. -/
def Obligations.ProvingRunsStartAndStop : Prop :=
  ∀ (s : State) (p : PressId), s.listening = true →
    (∀ (pairs : List SensorPos) (l0 l1 l2 l3 tol loops : Nat) (continuous stopOnError : Bool),
      ((s.press p).state = .idle ∨ (s.press p).state = .preheat ∨ (s.press p).state = .ready) →
      (s.press p).run.state ≠ .running → (s.press p).zoneCount ≤ 24 → pairs ≠ [] → pairs.Nodup →
      (∀ k ∈ pairs, k.zone < (s.press p).zoneCount ∧ (s.press p).fittedAt k = true) →
      l0 ≤ 3000 → l1 ≤ 3000 → l2 ≤ 3000 → l3 ≤ 3000 → 1 ≤ tol → tol ≤ 100 → loops ≤ 4095 → (continuous = false → 1 ≤ loops) →
      ∃ t x, exec (.proveStart (provePayload p pairs [l0, l1, l2, l3] tol loops continuous stopOnError)) s = .next t ∧
        t.link.reply = some ⟨0x33, [0]⟩ ∧ (t.press p).run.state = .running ∧ (t.press p).run.params = some x ∧
        x.pattern = [(l0 : Int), l1, l2, l3] ∧ x.tolerance = tol ∧ x.loops = loops ∧ x.continuous = continuous ∧
        x.stopOnError = stopOnError ∧ x.selection.Perm pairs ∧
        (x.selection.map fun k => 2 * k.zone + k.position.code).Pairwise (· < ·) ∧
        (t.press p).run.index = 0 ∧ (t.press p).run.loopsDone = 0 ∧ (t.press p).run.first = none ∧
        (t.press p).drive = (s.press p).drive ++ [.reference ⟨x.selection, l0⟩] ∧
        (t.press p).run.failing = [] ∧ (∀ k ∈ pairs, (t.press p).sensorAt k = ⟨.proving, none, 0⟩) ∧
        (∀ k ∈ pairs, ∀ z', (t.press p).zones[k.zone]? = some z' → z'.hold = .stopped) ∧
        (∀ (i : Nat) (z z' : Zone), (s.press p).zones[i]? = some z → (t.press p).zones[i]? = some z' → z.source ≠ .none →
          z'.source = .none → (s.press p).state ≠ .idle → (t.press p).state = .preheat ∧ (t.press p).readyRun = none) ∧
        ((∀ (i : Nat) (z z' : Zone), (s.press p).zones[i]? = some z → (t.press p).zones[i]? = some z' → z'.source = z.source) →
          (t.press p).state = (s.press p).state ∧ (t.press p).readyRun = (s.press p).readyRun ∧ t.events = s.events) ∧
        sensorsKept (· ∈ pairs) (s.press p) (t.press p) ∧ s.sameOutside p t) ∧
    ((s.press p).run.state = .running →
      ∃ t, exec (.proveStop [pressByte p]) s = .next t ∧ t.link.reply = some ⟨0x34, [0]⟩ ∧ (t.press p).run.state = .stopped ∧
        (t.press p).run.failing = (s.press p).run.failing ∧ (t.press p).run.command = none ∧
        (∀ k ∈ (s.press p).run.selection, k.zone < (s.press p).zoneCount →
          (t.press p).sensorAt k = (if k ∈ (s.press p).run.failing then ⟨.failed, none, 3⟩ else ⟨.doubtful, none, 0⟩)) ∧
        sensorsKept (· ∈ (s.press p).run.selection) (s.press p) (t.press p) ∧
        ((s.press p).state = .idle ∨ (s.press p).state = .held →
          ((s.press p).run.failing = [] → t.events = (queueEvent .proveDone (some p) (.run .stopped) none s).events ∧
            (t.press p).faults = (s.press p).faults) ∧
          ((s.press p).run.failing ≠ [] →
            t.events = (queueEvent .proveDone (some p) (.run .stopped) none (raiseFault (.press p) .proveFail .none s)).events ∧
            (t.press p).faults = ((raiseFault (.press p) .proveFail .none s).press p).faults)) ∧
        (s.autoLoadOff p →
          (.proveDone ∉ s.events.disabled → t.events.endsWith ⟨.proveDone, some p, .run .stopped, none, s.time⟩) ∧
          ((s.press p).run.failing = [] → (t.press p).faults = (s.press p).faults) ∧
          ((s.press p).run.failing ≠ [] → ∃ f, (t.press p).faults.first = some f ∧
            (f.code = .proveFail ∨ .proveFail ∈ (t.press p).faults.next))) ∧
        ∀ q, q ≠ p → t.press q = s.press q) ∧
    ((s.press p).run.state ≠ .running → exec (.proveStop [pressByte p]) s = .next (refusal 0x34 0x04 0 s))

/-- R74 to R78: a run in progress. A reading of a PROVING sensor within the tolerance changes nothing in the record; a
miscompare records the first and the last failure and joins the failing set, and ends a run with stopOnError FAILED; the scan
that closes advances the pattern index, and with it the loops completed, and the last one of a counted run ends it PASSED or
FAILED, with PROVE_FAIL and PROVE_DONE; an overdue expiry is a miscompare of every selected sensor, advances nothing and commands
the same level again; an ABORT ends the run ABORTED without judgement. A run that ends discards the readings at its positions
through the rest of the open scan and the next. Auto-load is off where a run ends. MODEL'S CHOICE: a failure after the loops
completed have stopped at 65,535 carries the loop number 65,536 (log 51); at an ABORT PROVE_DONE follows PRESS_STATE (log 57); the
discard is kept per position, and a reading, given or arrived, is compared where the position has none (log 20). -/
def Obligations.ProvingRunsGoOnAndEnd : Prop :=
  ∀ (s : State) (p : PressId) (x : RunParams), (s.press p).run.state = .running → (s.press p).run.params = some x →
    (∀ n, (s.press p).configured = true → (s.press p).run.inScan = true → (s.press p).streamPos = some n →
      n < (s.press p).positions → posAt n ∈ x.selection → (s.press p).fittedAt (posAt n) = true →
      ((s.press p).sensorAt (posAt n)).state = .proving → (∀ d ∈ (s.press p).run.discard, d.1 ≠ posAt n) →
      let run := (s.press p).run
      let level := x.pattern.getD run.index 0
      let good := fun r : StreamReading => ∃ T, r = .value T ∧ T - level ≤ x.tolerance ∧ level - T ≤ x.tolerance
      let failure : ProveFailure → StreamReading → Prop := fun f r =>
        f.pos = posAt n ∧ f.index = run.index ∧ f.loop = run.loopsDone + 1 ∧ f.reading = judgedReading r
      (n + 1 < (s.press p).positions → ∀ r, good r → ∃ t, exec (.temperatureReading p r) s = .next t ∧
        (t.press p).run = run ∧ sensorsKept (fun _ => False) (s.press p) (t.press p)) ∧
      (n + 1 < (s.press p).positions → x.stopOnError = false → ∀ r, ¬good r →
        ∃ t f, exec (.temperatureReading p r) s = .next t ∧ failure f r ∧
          (t.press p).run = { run with
            first := some (run.first.getD f), last := some f, failing := (t.press p).run.failing } ∧
          (∀ k, k ∈ (t.press p).run.failing ↔ k ∈ x.selection ∧ (k = posAt n ∨ k ∈ run.failing)) ∧
          sensorsKept (fun _ => False) (s.press p) (t.press p)) ∧
      (x.stopOnError = true → s.autoLoadOff p → ∀ r, ¬good r →
        ∃ t f, exec (.temperatureReading p r) s = .next t ∧ failure f r ∧ (t.press p).run.state = .failed ∧
          (t.press p).run.first = some (run.first.getD f) ∧ (t.press p).run.last = some f ∧
          (∀ k, k ∈ (t.press p).run.failing ↔ k ∈ x.selection ∧ (k = posAt n ∨ k ∈ run.failing)) ∧
          (t.press p).run.command = none ∧ (t.press p).run.index = run.index ∧ (t.press p).run.loopsDone = run.loopsDone ∧
          sensorsJudged x.selection (t.press p).run.failing (s.press p) (t.press p) ∧
          (∀ k ∈ x.selection, ∀ d, (k, d) ∈ (t.press p).run.discard ↔ d = (if n + 1 < (s.press p).positions then 2 else 1)) ∧
          ((s.press p).state = .idle ∨ (s.press p).state = .held →
            t.events = (queueEvent .proveDone (some p) (.run .failed) none (raiseFault (.press p) .proveFail .none s)).events ∧
            (t.press p).faults = ((raiseFault (.press p) .proveFail .none s).press p).faults)) ∧
      (n + 1 = (s.press p).positions → s.autoLoadOff p → ∀ r, good r →
        let wrap := run.index = 3
        let loops := if wrap then min 65535 (run.loopsDone + 1) else run.loopsDone
        ∃ t, exec (.temperatureReading p r) s = .next t ∧ (t.press p).streamPos = none ∧
          (¬(wrap ∧ x.continuous = false ∧ loops = x.loops) → (t.press p).run = { run with
            index := if wrap then 0 else run.index + 1, loopsDone := loops, inScan := false
            discard := (t.press p).run.discard }) ∧
          (wrap → x.continuous = false → loops = x.loops →
            (t.press p).run.state = (if run.failing = [] then .passed else .failed) ∧ (t.press p).run.index = 0 ∧
            (t.press p).run.loopsDone = loops ∧ (t.press p).run.failing = run.failing ∧ (t.press p).run.first = run.first ∧
            (t.press p).run.last = run.last ∧ (t.press p).run.command = none ∧
            sensorsJudged x.selection run.failing (s.press p) (t.press p) ∧
            (∀ k ∈ x.selection, ∀ d, (k, d) ∈ (t.press p).run.discard ↔ d = 1) ∧
            ((s.press p).state = .idle ∨ (s.press p).state = .held →
              (run.failing = [] → t.events = (queueEvent .proveDone (some p) (.run .passed) none s).events ∧
                (t.press p).faults = (s.press p).faults) ∧
              (run.failing ≠ [] →
                t.events = (queueEvent .proveDone (some p) (.run .failed) none (raiseFault (.press p) .proveFail .none s)).events ∧
                (t.press p).faults = ((raiseFault (.press p) .proveFail .none s).press p).faults))))) ∧
    ((s.press p).configured = true → (s.press p).overdue = some 0 → x.stopOnError = false →
      ∃ t, exec (.overdueExpiry p) s = .next t ∧ (t.press p).run.state = .running ∧ (t.press p).streamPos = none ∧
        (t.press p).overdue = some 100 ∧ (t.press p).run.inScan = false ∧ (t.press p).run.index = (s.press p).run.index ∧
        (t.press p).run.loopsDone = (s.press p).run.loopsDone ∧
        (t.press p).run.command = some ⟨x.selection, x.pattern.getD (s.press p).run.index 0⟩ ∧
        (t.press p).drive = (s.press p).drive ++ [.reference ⟨x.selection, x.pattern.getD (s.press p).run.index 0⟩] ∧
        (∀ k ∈ (s.press p).run.failing, k ∈ x.selection → k ∈ (t.press p).run.failing) ∧
        ∀ k ∈ x.selection, (s.press p).fittedAt k = true → ((s.press p).sensorAt k).state = .proving →
          (∀ d ∈ (s.press p).run.discard, d.1 ≠ k) → k ∈ (t.press p).run.failing ∧
            ((t.press p).sensorAt k).state = .proving) ∧
    (s.listening = true → (s.press p).state = .preheat ∨ (s.press p).state = .ready →
      ∃ t, exec (.abort [pressByte p]) s = .next t ∧ t.link.reply = some ⟨0x25, [0]⟩ ∧ (t.press p).state = .idle ∧
        (t.press p).heatMode = .standby ∧ (t.press p).run.state = .aborted ∧ (t.press p).run.first = (s.press p).run.first ∧
        (t.press p).run.last = (s.press p).run.last ∧ (t.press p).run.failing = (s.press p).run.failing ∧
        (t.press p).run.command = none ∧ sensorsJudged x.selection [] (s.press p) (t.press p) ∧
        (t.press p).faults = (s.press p).faults ∧
        (∀ k ∈ x.selection, ∀ d, (k, d) ∈ (t.press p).run.discard ↔ d = (if (s.press p).streamPos.isSome then 2 else 1)) ∧
        t.events = (queueEvent .proveDone (some p) (.run .aborted) none (queueEntry p .idle s)).events)

/-! ## Heat and feed -/

/-- R80, R83 to R86, R89: the law a control tick applies to a zone with a value in STANDBY or RUN: the effective setpoint
moves toward the setpoint, by at most the ramp step; the hot test; the demand; the accumulator. Every division truncates. Where the
hot mark becomes set, and at no other zone, the tick raises ZONE_HOT of the zone: it is logged on the press, queued as a FAULT where
its mask and the queue allow, and written into the OPEN records (R174, R184, R186).
That the heat inhibit is the one at the start of the tick, whatever the tick itself raises, is the model's choice (log 17). -/
def Obligations.ControlTickAppliesTheLaw : Prop :=
  ∀ (s : State) (p : PressId) (c : PressConfig) (i : Nat) (z : Zone) (T sp : Int), (s.press p).nextTick = some 0 →
    (s.press p).config = some c → (s.press p).heatMode ≠ .off → (s.press p).zones[i]? = some z → z.value = some T →
    s.setpoint p i = some sp →
    ∃ t z' spe, exec (.controlTick p) s = .next t ∧ (t.press p).nextTick = some 500 ∧ (t.press p).zones[i]? = some z' ∧
      z'.spe = some spe ∧
      (∀ k b, s.rampOf p = some k → z.spe = some b → spe = b + max (-(k : Int)) (min (k : Int) (sp - b))) ∧
      (s.rampOf p = none ∨ z.spe = none → spe = sp) ∧
      z'.hot = (if z.hot then decide (sp + c.overtemp.tdiv 2 < T) else decide (sp + c.overtemp < T)) ∧
      (z.hot = false → z'.hot = true →
        (∃ f, (t.press p).faults.first = some f ∧ (f.code = .zoneHot ∨ .zoneHot ∈ (t.press p).faults.next)) ∧
        (.zoneHot ∉ (s.press p).faults.quiet → .fault ∉ s.events.disabled →
          (⟨.fault, some p, .fault .zoneHot .degrade (.zone i), none, s.time⟩ : Event) ∈ t.events.queue ∨
            (64 ≤ t.events.queue.length ∧ t.events.overflow = true)) ∧
        ∀ (j : Nat) (x x' : PartRecord), s.history.records[j]? = some x → t.history.records[j]? = some x' → x.press = p →
          x.close = none → .zoneHot ∈ x'.faults ∨ (6 ≤ x'.faults.length ∧ x'.more = true)) ∧
      (z.hot = true ∨ z'.hot = false → ∀ e ∈ t.events.queue.drop s.events.queue.length,
        e.press = some p → e.detail ≠ .fault .zoneHot .degrade (.zone i)) ∧
      (z'.hot = true → z'.demand = 0) ∧
      (z'.hot = false → z'.demand = max 0 (min 1000 ((c.kp * (spe - T)).tdiv 64 + z.iacc.tdiv 1024))) ∧
      (((c.kp * (spe - T)).tdiv 64 + z.iacc.tdiv 1024 > 1000 ∧ 0 ≤ spe - T) ∨
          ((c.kp * (spe - T)).tdiv 64 + z.iacc.tdiv 1024 < 0 ∧ spe - T ≤ 0) ∨ (z'.hot = true ∧ 0 ≤ spe - T) ∨
          (0 < spe - T ∧ z.feedLimited = true) ∨ (s.press p).heatInhibit = true → z'.iacc = z.iacc) ∧
      (¬((c.kp * (spe - T)).tdiv 64 + z.iacc.tdiv 1024 > 1000 ∧ 0 ≤ spe - T) →
          ¬((c.kp * (spe - T)).tdiv 64 + z.iacc.tdiv 1024 < 0 ∧ spe - T ≤ 0) → ¬(z'.hot = true ∧ 0 ≤ spe - T) →
          ¬(0 < spe - T ∧ z.feedLimited = true) → (s.press p).heatInhibit = false →
        z'.iacc = max 0 (min 1024000 (z.iacc + c.ki * (spe - T)))) ∧
      z'.hold = .stopped ∧ z'.primary = z.primary ∧ z'.spare = z.spare ∧ z'.dose = z.dose ∧ z'.grant = z.grant ∧
      s.sameOutside p t

/-- R80, R84, R88, R90, R91, R98: the other treatments of a zone at a control tick, and the end of a blind
hold. That a tick or expiry command that is not due changes nothing is the model's choice (log 3). -/
def Obligations.ControlTickOtherZones : Prop :=
  ∀ (s : State) (p : PressId) (c : PressConfig) (i : Nat) (z : Zone), (s.press p).config = some c →
    (s.press p).zones[i]? = some z →
    ((s.press p).nextTick ≠ some 0 → exec (.controlTick p) s = .next s) ∧
    ((s.press p).nextTick = some 0 → ∃ t z', exec (.controlTick p) s = .next t ∧ (t.press p).zones[i]? = some z' ∧
      s.sameOutside p t ∧
      (∀ v, z.value = some v → 3200 < v → ∃ a ∈ (t.press p).faults.active, a.code = .overheat) ∧
      ((s.press p).heatMode = .off → z'.demand = 0 ∧ z'.iacc = 0 ∧ z'.hold = .stopped ∧ z'.hot = false) ∧
      ((s.press p).heatMode ≠ .off → z.provingBlind = true → z'.demand = 0 ∧ z'.iacc = z.iacc ∧ z'.hold = .stopped) ∧
      ((s.press p).heatMode ≠ .off → z.provingBlind = false → z.source = .none → z'.iacc = z.iacc ∧ z'.hot = z.hot ∧
        (z.hold = .stopped → c.holdLimit ≠ 0 → z'.hold = .running (c.holdLimit * 1000) ∧ z'.demand = z.demand) ∧
        (z.hold = .stopped → c.holdLimit = 0 → z'.hold = .expired ∧ z'.demand = 0 ∧ (t.press p).hasFault .zoneBlind (.zone i)) ∧
        (∀ n, z.hold = .running n → z'.hold = .running n ∧ z'.demand = z.demand) ∧
        (z.hold = .expired → z'.hold = .expired ∧ z'.demand = 0))) ∧
    (z.hold = .running 0 → ∃ t, exec (.blindHoldExpiry p i) s = .next t ∧
      (t.press p).zones[i]? = some { z with hold := .expired, demand := 0 } ∧ (t.press p).hasFault .zoneBlind (.zone i) ∧
      ((s.press p).configured = true → (t.press p).heatInhibit = true) ∧ s.sameOutside p t) ∧
    (z.hold ≠ .running 0 → exec (.blindHoldExpiry p i) s = .next s)

/-- R87, R98 to R102, R105: what a round gives each zone of a configured press: its request, its share of what its class is
offered, the grant duty and the feed-limited mark; the shortfall count of the press; and the feed limit the round takes, which
the sum of the grants it sets never exceeds. The tenth short round in a row raises FEED_SHORT on its press, an advisory that
marks the OPEN records of the press and is reported; nothing else is raised. MODEL'S CHOICE (log 41): the shortfall count of an
UNCONFIGURED press is 0. The order of several FEED_SHORT of one round (log 48) is not stated. -/
def Obligations.RoundSharesByClass : Prop :=
  ∀ s : State, s.feed.nextRound = 0 →
    ∃ t, exec .allocationRound s = .next t ∧
      t.feed.class1.offered = s.feed.configured ∧
      t.feed.class2.offered = s.feed.configured - t.feed.class1.granted ∧
      t.feed.class3.offered = s.feed.configured - t.feed.class1.granted - t.feed.class2.granted ∧
      t.feed.inForce = s.feed.configured ∧ t.feed.configured = s.feed.configured ∧ t.feed.lastRound = some s.time ∧
      t.feed.nextRound = 500 ∧ t.feed.WithinLimit ∧
      (((allPresses.map t.press).filter Press.configured).flatMap fun pr => pr.zones.map fun z => z.grant).sum ≤ t.feed.inForce ∧
      t.feed.class1.granted + t.feed.class2.granted + t.feed.class3.granted ≤ s.feed.configured ∧
      (∀ k ct, (k, ct) ∈ [(FeedClass.one, t.feed.class1), (.two, t.feed.class2), (.three, t.feed.class3)] →
        ct.requested = (((allPresses.map t.press).filter fun pr => pr.configured && pr.feedClass == k).flatMap
          fun pr => pr.zones.map fun z => z.request).sum ∧
        ct.granted = (((allPresses.map t.press).filter fun pr => pr.configured && pr.feedClass == k).flatMap
          fun pr => pr.zones.map fun z => z.grant).sum ∧
        (ct.scaled = true ↔ ct.offered < ct.requested) ∧
        ∀ (p : PressId) (i : Nat) (z : Zone), (t.press p).configured = true → (t.press p).feedClass = k → (t.press p).zones[i]? = some z →
          z.grant = (if ct.requested ≤ ct.offered then z.request else z.request * ct.offered / ct.requested)) ∧
      (∀ (p : PressId) (i : Nat) (z z' : Zone), (s.press p).configured = true → (s.press p).zones[i]? = some z → (t.press p).zones[i]? = some z' →
        z'.request = (if (s.press p).heatInhibit || (s.press p).heatMode == .off then 0 else z.demand.toNat * z.rated / 1000) ∧
        (z.rated ≠ 0 → z'.duty = z'.grant * 1000 / z.rated) ∧ (z.rated = 0 → z'.duty = 0) ∧
        z'.feedLimited = decide (z'.grant < z'.request) ∧ z'.demand = z.demand ∧ z'.iacc = z.iacc ∧ z'.dose = z.dose ∧
        ((t.press p).feedClass = .unclassed → z'.grant = 0)) ∧
      (∀ p, (s.press p).configured = true → (t.press p).feedClass = (match (s.press p).state, (s.press p).prior with
        | .held, some st => classFor (s.press p).heatMode st
        | st, _ => classFor (s.press p).heatMode st)) ∧
      (∀ p, (s.press p).configured = false → (t.press p).shortfall = 0 ∧ (t.press p).zones = (s.press p).zones) ∧
      (∀ p, (s.press p).configured = true →
        let counts := (t.press p).feedClass = .one ∧ t.feed.class1.scaled = true ∧
          0 < ((t.press p).zones.map fun z => z.request).sum
        (¬counts → (t.press p).shortfall = 0) ∧
        (counts → (s.press p).shortfall < 9 → (t.press p).shortfall = (s.press p).shortfall + 1) ∧
        (counts → 9 ≤ (s.press p).shortfall → (t.press p).shortfall = 0 ∧
          (∀ (i : Nat) (x y : PartRecord), s.history.records[i]? = some x → t.history.records[i]? = some y →
            x.close = none → x.press = p → y.feedShortMark = true ∧ (.feedShort ∈ y.faults ∨ y.more = true)) ∧
          ((s.press p).faults.quiet.contains .feedShort = false → s.events.disabled.contains .fault = false →
            s.events.queue.length ≤ 60 →
            ⟨.fault, some p, .fault .feedShort .advisory .none, none, s.time⟩ ∈ t.events.queue.drop s.events.queue.length)) ∧
        (¬counts ∨ (s.press p).shortfall < 9 →
          (∀ (i : Nat) (x : PartRecord), s.history.records[i]? = some x → x.press = p → t.history.records[i]? = some x) ∧
          ∀ e ∈ t.events.queue.drop s.events.queue.length, e.press ≠ some p)) ∧
      (∀ p, (t.press p).faults = (s.press p).faults) ∧ t.history.records.length = s.history.records.length ∧
      s.events.queue <+: t.events.queue ∧
      (∀ e ∈ t.events.queue.drop s.events.queue.length,
        ∃ p, e = ⟨.fault, some p, .fault .feedShort .advisory .none, none, s.time⟩) ∧
      (∀ p, (t.press p).state = (s.press p).state ∧ (t.press p).heatMode = (s.press p).heatMode) ∧
      t.weigh = s.weigh ∧ t.orders = s.orders ∧ t.recipes = s.recipes

/-- R93, R94, R97: the drive duty of a zone is its grant duty, and 0 under the heat inhibit, in heat mode OFF and in
UNCONFIGURED. A change of a press sends nothing where no drive duty changes, and else one transfer in zone order that holds every
changed duty, each zone at its new duty, and every zone where it cuts the heat or gives it back. A round sends so, HEAT_HOLD
does, and a press that is not configured is sent nothing by either; the cell reset sends 0 for every zone at once. MODEL'S CHOICE
(log 31): which duties a transfer holds beside the changed ones, and the 0 for every position at a change of the grid. -/
def Obligations.DriveStreamCarriesChanges : Prop :=
  (∀ (pr : Press) (z : Zone), pr.driveDuty z
    = if pr.heatInhibit = true ∨ pr.heatMode = .off ∨ pr.state = .unconfigured then 0 else z.duty) ∧
  (∀ b a : Press, b.driven a = { a with drive := (b.driven a).drive } ∧
    ((∀ (i : Nat) (z : Zone), a.zones[i]? = some z → ∃ y, b.zones[i]? = some y ∧ b.driveDuty y = a.driveDuty z) →
      (b.driven a).drive = a.drive) ∧
    (∀ (i : Nat) (z : Zone), a.zones[i]? = some z → (∀ y, b.zones[i]? = some y → b.driveDuty y ≠ a.driveDuty z) →
      ∃ es, (b.driven a).drive = a.drive ++ [.duties es] ∧ es.Pairwise (fun x y => x.1 < y.1) ∧
        (∀ x ∈ es, ∃ y, a.zones[x.1]? = some y ∧ x.2 = a.driveDuty y) ∧
        (∀ (j : Nat) (y : Zone), a.zones[j]? = some y → (∀ u, b.zones[j]? = some u → b.driveDuty u ≠ a.driveDuty y) →
          (j, a.driveDuty y) ∈ es) ∧
        (b.heatCut ≠ a.heatCut → es.length = a.zones.length))) ∧
  (∀ s : State, s.feed.nextRound = 0 → ∃ t, exec .allocationRound s = .next t ∧ ∀ p,
    ((s.press p).configured = false → (t.press p).drive = (s.press p).drive) ∧
    ((s.press p).configured = true →
      (t.press p).drive = ((s.press p).driven { s.press p with zones := (t.press p).zones }).drive)) ∧
  (∀ (s : State) (p : PressId), s.listening = true → (s.press p).configured = true → (s.press p).heatInhibit = false →
    (s.press p).heatMode ≠ .off → (∃ z ∈ (s.press p).zones, z.duty ≠ 0) →
    ∃ t, exec (.heatHold [pressByte p, 0]) s = .next t ∧
      (t.press p).drive = (s.press p).drive ++ [.duties ((List.range (s.press p).zoneCount).map fun i => (i, 0))]) ∧
  (∀ (s : State) (p : PressId), s.listening = true →
    ((s.press p).configured = false → ∀ k : Byte, ∃ t, exec (.heatHold [pressByte p, k]) s = .next t ∧
      (t.press p).drive = (s.press p).drive) ∧
    ∃ t, exec (.cellReset []) s = .next t ∧ (t.press p).drive = (s.press p).drive ++
      if (s.press p).configured then [.duties ((List.range (s.press p).zoneCount).map fun i => (i, 0))] else []) ∧
  ∀ (s : State) (p : PressId) (c old : PressConfig) (entries : List ZoneEntry), s.listening = true → c.inRanges entries →
    (s.press p).state = .idle → (s.press p).config = some old → (s.press p).run.state ≠ .running →
    (old.rows ≠ c.rows ∨ old.cols ≠ c.cols) →
    ∃ t, exec (.pressConfig (configPayload p c entries)) s = .next t ∧
      ((∀ z ∈ (s.press p).zones, (s.press p).driveDuty z = 0) → (t.press p).drive = (s.press p).drive) ∧
      ((∃ z ∈ (s.press p).zones, (s.press p).driveDuty z ≠ 0) →
        (t.press p).drive = (s.press p).drive ++ [.duties ((List.range 24).map fun i => (i, 0))])

/-! ## The cure -/

/-- R110: the cure rate of a zone value on the sixteen strictly increasing breakpoints of a rate table: the end rates at and
beyond the ends, interpolation with truncation toward zero between two breakpoints, a breakpoint's own rate at a breakpoint,
always between the two rates, both included, and at most 65535. -/
def Obligations.CureRateInterpolates : Prop :=
  ∀ points : List (Int × Nat), points.length = 16 → points.Pairwise (fun a b => a.1 < b.1) → (∀ x ∈ points, x.2 ≤ 65535) →
    (∀ T t0 k0, points[0]? = some (t0, k0) → T ≤ t0 → rateAt points T = k0) ∧
    (∀ T t15 k15, points[15]? = some (t15, k15) → t15 ≤ T → rateAt points T = k15) ∧
    (∀ (T : Int) (i : Nat) (ti : Int) (ki : Nat) (tj : Int) (kj : Nat), points[i]? = some (ti, ki) →
      points[i + 1]? = some (tj, kj) → ti ≤ T → T < tj →
      (rateAt points T : Int) = ki + (((kj : Int) - ki) * (T - ti)).tdiv (tj - ti) ∧
      min ki kj ≤ rateAt points T ∧ rateAt points T ≤ max ki kj) ∧
    (∀ (i : Nat) (ti : Int) (ki : Nat), points[i]? = some (ti, ki) → rateAt points ti = ki) ∧
    ∀ T, rateAt points T ≤ 65535

/-- R109, R111 to R114, R36: a cure tick gives each zone with a value its dose from its rate, saturating, and leaves a blind
zone's dose and residue; the doses decide the cavities that become complete; with every cavity complete a press in CURING
goes to OPENING and its cure ends. -/
def Obligations.CureTickGathersDose : Prop :=
  ∀ (s : State) (p : PressId) (r : Recipe), (s.press p).cure.state = .running → (s.press p).cure.nextTick = some 0 →
    s.boundRecipe p = some r → (s.press p).level .openSw = false →
    ∃ t, exec (.cureTick p) s = .next t ∧ (t.press p).zoneCount = (s.press p).zoneCount ∧
      (∀ (i : Nat) (z z' : Zone), (s.press p).zones[i]? = some z → (t.press p).zones[i]? = some z' →
        (∀ T, z.value = some T → z'.dose = min 4294967295
            (z.dose + (rateAt r.cure.points T * r.cure.period + z.residue) / 256) ∧
          z'.residue = (rateAt r.cure.points T * r.cure.period + z.residue) % 256) ∧
        (z.value = none → z'.dose = z.dose ∧ z'.residue = z.residue) ∧
        z'.demand = z.demand ∧ z'.iacc = z.iacc ∧ z'.primary = z.primary ∧ z'.spare = z.spare) ∧
      (∀ c ∈ cavitiesOf r.header.cavities,
        (((t.press p).cure.cavities.get c).complete = true ↔ ((s.press p).cure.cavities.get c).complete = true ∨
          ∀ i ∈ s.footprint p c, ∀ z', (t.press p).zones[i]? = some z' → r.cure.target * 1000 ≤ z'.dose) ∧
        (((s.press p).cure.cavities.get c).complete = true →
          ((t.press p).cure.cavities.get c).offset = ((s.press p).cure.cavities.get c).offset) ∧
        (((s.press p).cure.cavities.get c).complete = false → ((t.press p).cure.cavities.get c).complete = true →
          ((t.press p).cure.cavities.get c).offset = ((s.press p).cure.closedTime.map fun x => (s.time - x).toNat)) ∧
        (((t.press p).cure.cavities.get c).blind = true ↔ ((s.press p).cure.cavities.get c).blind = true ∨
          ∃ i ∈ s.footprint p c, ∃ z, (s.press p).zones[i]? = some z ∧ z.source = .none)) ∧
      (t.press p).cure.ticks = min 65535 ((s.press p).cure.ticks + 1) ∧
      (((s.press p).state = .curing ∧ ∀ c ∈ cavitiesOf r.header.cavities, ((t.press p).cure.cavities.get c).complete = true) →
        (t.press p).state = .opening ∧ (t.press p).cure.state = .ended ∧ (t.press p).cure.nextTick = none) ∧
      (((s.press p).state ≠ .curing ∨ ∃ c ∈ cavitiesOf r.header.cavities, ((t.press p).cure.cavities.get c).complete = false) →
        (t.press p).state = (s.press p).state ∧ (t.press p).cure.state = .running ∧
          (t.press p).cure.nextTick = some r.cure.period) ∧
      s.sameOutside p t

/-- R112, R113, R115, R116, R120, R121: what a cure tick measures for a cavity: the zones of its footprint off their primary
join the degraded list once, in zone order, and so does a zone at a zone update while the cure is RUNNING; the excursion time
grows by the period where a zone with a value lies out of the recipe's bands, saturating; the extremes take in every value. The
cure summary of an OPEN record is kept equal to the items, and is finished where OPEN_CMD is asserted after the cure: by the
tick that completes the press, by a FORCE_OPEN, or by a MOTION_HOLD released in OPENING. -/
def Obligations.CureTicksMeasureAndSummariesFollow : Prop :=
  (∀ (s : State) (p : PressId) (r : Recipe), (s.press p).cure.state = .running → (s.press p).cure.nextTick = some 0 →
    s.boundRecipe p = some r → (s.press p).level .openSw = false →
    ∃ t, exec (.cureTick p) s = .next t ∧
      (∀ c ∈ cavitiesOf r.header.cavities,
        let k := (s.press p).cure.cavities.get c
        let k' := (t.press p).cure.cavities.get c
        let value := fun (i : Nat) (T : Int) => i ∈ s.footprint p c ∧ ∃ z, (s.press p).zones[i]? = some z ∧ z.value = some T
        let out := ∃ i T sp, value i T ∧ r.heat.setpoints[i]? = some sp ∧ (T < sp - r.cure.lowBand ∨ sp + r.cure.highBand < T)
        (∃ new, k'.degraded = k.degraded ++ new ∧ new.Sublist (s.footprint p c) ∧ (k.degraded.Nodup → k'.degraded.Nodup)) ∧
        (∀ i, i ∈ k'.degraded ↔ i ∈ k.degraded ∨
          (i ∈ s.footprint p c ∧ ∃ z, (s.press p).zones[i]? = some z ∧ z.source ≠ .primary)) ∧
        (out → k'.excursion = min 4294967295 (k.excursion + r.cure.period)) ∧ (¬out → k'.excursion = k.excursion) ∧
        ((∀ i T, ¬value i T) → k'.extremes = k.extremes) ∧
        ((∃ i T, value i T) → ∃ lo hi, k'.extremes = some (lo, hi) ∧ (∀ i T, value i T → lo ≤ T ∧ T ≤ hi) ∧
          (∀ a b, k.extremes = some (a, b) → lo ≤ a ∧ b ≤ hi) ∧
          ((∃ b, k.extremes = some (lo, b)) ∨ ∃ i, value i lo) ∧ ((∃ a, k.extremes = some (a, hi)) ∨ ∃ i, value i hi)) ∧
        k'.undercured = k.undercured) ∧
      ∀ (i : Nat) (x x' : PartRecord) (cs : CureSummary), s.history.records[i]? = some x → t.history.records[i]? = some x' →
        x.press = p → x.close = none → x.cure = some cs → cs.finished = false → cs.noCure = false →
        let k := (t.press p).cure.cavities.get x.cavity
        let now := { cs with
          extremes := k.extremes, excursion := k.excursion, degraded := k.degraded, blind := k.blind, offset := k.offset
          undercured := k.undercured }
        ∃ cs', x'.cure = some cs' ∧
          ((s.press p).state = .curing → (t.press p).state = .opening → (t.press p).openCmd = true →
            now.finishedIn t p x.cavity cs') ∧
          ((s.press p).state ≠ .curing ∨ (t.press p).state ≠ .opening ∨ (t.press p).openCmd = false → cs' = now)) ∧
  (∀ (s : State) (p : PressId) (i : Nat), (s.press p).cure.state = .running → (s.press p).sourceAt i ≠ .primary →
    ∀ c ∈ s.cavities p, i ∈ s.footprint p c → ((zoneUpdate p i s).press p).cure.cavities.get c
      = { (s.press p).cure.cavities.get c with
          degraded := if i ∈ ((s.press p).cure.cavities.get c).degraded then ((s.press p).cure.cavities.get c).degraded
            else ((s.press p).cure.cavities.get c).degraded ++ [i] }) ∧
  (∀ (s : State) (p : PressId), s.listening = true → (s.press p).state = .opening → (s.press p).configured = true →
    ∃ t, exec (.motionHold [pressByte p, 1]) s = .next t ∧
      ∀ (i : Nat) (x x' : PartRecord) (cs : CureSummary), s.history.records[i]? = some x → t.history.records[i]? = some x' →
        x.press = p → x.close = none → x.cure = some cs → ∃ cs', x'.cure = some cs' ∧
          ((t.press p).openCmd = true → cs.finishedIn s p x.cavity cs') ∧ ((t.press p).openCmd = false → cs' = cs)) ∧
  ∀ (s : State) (p : PressId), s.listening = true → (s.press p).state = .curing → (s.press p).level .openSw = false →
    ∃ t, exec (.forceOpen [pressByte p]) s = .next t ∧
      ∀ (i : Nat) (x x' : PartRecord) (cs : CureSummary), s.history.records[i]? = some x → t.history.records[i]? = some x' →
        x.press = p → x.close = none → x.cure = some cs → cs.finished = false → cs.noCure = false →
        let k := (t.press p).cure.cavities.get x.cavity
        let now := { cs with
          extremes := k.extremes, excursion := k.excursion, degraded := k.degraded, blind := k.blind, offset := k.offset
          undercured := k.undercured }
        ∃ cs', x'.cure = some cs' ∧ ((t.press p).openCmd = true → now.finishedIn t p x.cavity cs') ∧
          ((t.press p).openCmd = false → cs' = now)

/-! ## The weigh station -/

/-- R1, R125 to R128, R133, R140, R142: a good sample resets the error count, enters both windows and forms a new average, and
with no build in hand and the station not FAULTED it does nothing else; an ERR sample only counts, and the fiftieth in a row
takes the station to FAULTED with SCALE_LOST; the sample timer's expiry is an ERR sample and starts the next 10 ms; from each
sample on the latest weigh parameters apply. The station is settled while S averages are held whose newest S lie within B, and
the settled value is the newest. A rounded quotient is nearest, and a tie goes away from zero. MODEL'S CHOICE: an expiry command
of a sample timer that has not run out changes nothing (log 3); the errors go on being counted in FAULTED, and the scale is lost
at any count of 50 or more (log 23); an ERR sample and the expiry of the sample timer count as the next sample, which brings the
latest weigh parameters into use (log 46). -/
def Obligations.SamplesErrorsAndSettles : Prop :=
  (∀ s : State,
    (∀ n : Int, s.weigh.build = none → s.weigh.state ≠ .faulted → 0 < s.weigh.params.n →
      let m := clamp (-300000) 300000
        (match s.weigh.copy.span with
          | some k => roundDiv ((n - s.weigh.copy.zero) * k) 65536
          | none => 0)
      let ms := (s.weigh.massWindow ++ [m]).drop (s.weigh.massWindow.length + 1 - 16)
      exec (.scaleSample (.raw n)) s = .next { s with weigh := { s.weigh with
        sampleTimer := 30, errors := 0, used := s.weigh.params
        rawWindow := (s.weigh.rawWindow ++ [n]).drop (s.weigh.rawWindow.length + 1 - 16), massWindow := ms
        averages := (s.weigh.averages ++ [roundDiv (ms.drop (ms.length - s.weigh.params.n)).sum (min s.weigh.params.n ms.length)]).drop
          (s.weigh.averages.length + 1 - 50) } }) ∧
    (∀ x, x = .errCode ∨ x = .corrupted → s.weigh.errors < 49 ∨ s.weigh.state = .faulted →
      exec (.scaleSample x) s = .next { s with weigh := { s.weigh with
        sampleTimer := 30, used := s.weigh.params, errors := s.weigh.errors + 1 } }) ∧
    (s.weigh.sampleTimer = 0 → s.weigh.errors < 49 ∨ s.weigh.state = .faulted →
      exec .sampleTimerExpiry s = .next { s with weigh := { s.weigh with
        sampleTimer := 10, used := s.weigh.params, errors := s.weigh.errors + 1 } }) ∧
    (s.weigh.sampleTimer ≠ 0 → exec .sampleTimerExpiry s = .next s) ∧
    (∀ x, x = .errCode ∨ x = .corrupted → 49 ≤ s.weigh.errors → s.weigh.state ≠ .faulted →
      ∃ t, exec (.scaleSample x) s = .next t ∧ t.weigh.state = .faulted ∧ t.weigh.build = none ∧ t.weigh.rawWindow = [] ∧
        t.weigh.massWindow = [] ∧ t.weigh.averages = [] ∧ t.weigh.copy = s.weigh.copy ∧ t.orders = s.orders ∧
        (∃ a ∈ t.cellFaults.active, a.code = .scaleLost ∧ a.qual = .none) ∧ ∀ p, t.press p = s.press p) ∧
    (∀ n, s.weigh.state = .faulted → s.weigh.tray.accepted = false → s.weigh.build = none →
      ∃ t, exec (.scaleSample (.raw n)) s = .next t ∧ t.weigh.errors = 0 ∧
        t.weigh.state = (if s.weigh.copy.valid then .idle else .uncalibrated))) ∧
  (∀ (w : Weigh) (v : Int), 1 ≤ w.used.s → (w.settled = some v ↔ ∃ older last, w.averages = older ++ last ∧
    last.length = w.used.s ∧ (∀ x ∈ last, ∀ y ∈ last, x - y ≤ w.used.b) ∧ last.getLast? = some v)) ∧
  ∀ (n : Int) (d : Nat), 0 < d →
    2 * (n - roundDiv n d * d) ≤ d ∧ -(d : Int) ≤ 2 * (n - roundDiv n d * d) ∧
    (2 * (n - roundDiv n d * d) = d → n < 0) ∧ (2 * (n - roundDiv n d * d) = -(d : Int) → 0 < n)

/-- R33, R134 to R139, R148, R153: the steps of an attempt on a good sample that is no overload, by the station's state: the
tare, one out of range raising TARE_FAULT, the placing of a ply, an accepted ply, a ply taken for no ply, and the charge that the
last ply makes, staged with its order removed at the same moment and CHARGE_DONE queued, after which auto-load is re-examined. -/
def Obligations.AttemptMakesACharge : Prop :=
  ∀ (s : State) (n : Int) (b : Build) (k : CavityCharge) (y : Ply), s.weigh.build = some b → s.weigh.copy.overload n = false →
    s.plan b = some k → k.plies[b.ply - 1]? = some y →
    let w := Weigh.takeGood n (s.weigh.beginSample 30)
    (∀ v, s.weigh.state = .taring → w.settled = some v → 0 ≤ v → v ≤ s.weigh.params.tareMax →
      exec (.scaleSample (.raw n)) s = .next { s with weigh := { w with
        state := .awaitPly, build := some { b with tare := some v, prev := some v, ply := 1 } } }) ∧
    (∀ v, s.weigh.state = .taring → w.settled = some v → (v < 0 ∨ s.weigh.params.tareMax < v) →
      ∃ t, exec (.scaleSample (.raw n)) s = .next t ∧ t.weigh = { w with state := .unloading, build := none } ∧
        t.events = (raiseFault .cell .tareFault .none s).events ∧ t.cellFaults = s.cellFaults ∧
        t.history = s.history ∧ t.orders = s.orders ∧ ∀ p, t.press p = s.press p) ∧
    (∀ a pv, s.weigh.state = .awaitPly → w.average = some a → b.prev = some pv →
      exec (.scaleSample (.raw n)) s = .next { s with weigh :=
        { w with state := if pv + y.target.tdiv 4 < a then .settling else .awaitPly, build := some b } }) ∧
    (∀ v pv, s.weigh.state = .settling → w.settled = some v → b.prev = some pv → v ≤ pv + y.target.tdiv 4 →
      exec (.scaleSample (.raw n)) s = .next { s with weigh := { w with state := .awaitPly, build := some b } }) ∧
    (∀ v pv, s.weigh.state = .settling → w.settled = some v → b.prev = some pv → pv + y.target.tdiv 4 < v →
      y.target - y.tolerance ≤ v - pv → v - pv ≤ y.target + y.tolerance →
      (b.ply < k.plies.length → exec (.scaleSample (.raw n)) s = .next { s with weigh := { w with
        state := .awaitPly
        build := some { b with masses := b.masses ++ [v - pv], prev := some v, rejects := 0, ply := b.ply + 1 } } }) ∧
      (∀ tare r, k.plies.length ≤ b.ply → b.tare = some tare → s.recipes.find b.recipe.id = some r →
        (k.plies.map fun x => x.target).sum - k.totalTolerance ≤ v - tare →
        v - tare ≤ (k.plies.map fun x => x.target).sum + k.totalTolerance →
        ∃ t, exec (.scaleSample (.raw n)) s = .next (examineAutoLoad b.press t) ∧
          t.orders = (s.orders.filter fun o => decide (o.number ≠ b.order)) ∧
          t.events = (queueEvent .chargeDone (some b.press) (.charge b.cavity) (some s.weigh.nextCharge) s).events ∧
          t.cellFaults = s.cellFaults ∧ t.history = s.history ∧
          t.weigh = { w with
            state := .unloading, build := none
            nextCharge := if s.weigh.nextCharge = 65535 then 1 else s.weigh.nextCharge + 1 } ∧
          (t.press b.press).staging.get b.cavity = (s.press b.press).staging.get b.cavity
            ++ [⟨s.weigh.nextCharge, b.press, b.cavity, b.recipe, tare, b.masses ++ [v - pv], v - tare, b.attempt, s.time,
              s.time + BitVec.ofNat 32 (r.charge.outLife * 1000)⟩] ∧
          ∀ q, q ≠ b.press → t.press q = s.press q))

/-- R125, R136 to R140: the ways an attempt fails, and a ply taken off again. A ply out of its tolerance raises PLY_REJECT and
waits in PLY_REJECTED until the scale settles at the previous value within B; the third reject of a ply, a total out of the total
tolerance (CHARGE_REJECT), an overload sample (OVERLOAD) and the loss of the tray fail the attempt, which is counted against its
order, and the third counted attempt removes the order with ORDER_FAILED. An attempt that fails makes no charge. MODEL'S CHOICE: at an
overload ORDER_FAILED is queued before the FAULT of OVERLOAD (log 24); the average whose settle ends PLY_REJECTED leaves the station
in AWAIT_PLY, however far above the previous value it lies (log 68). -/
def Obligations.AttemptsFail : Prop :=
  (∀ (s : State) (n : Int) (b : Build) (k : CavityCharge) (y : Ply) (v pv : Int), s.weigh.build = some b →
    s.weigh.copy.overload n = false → s.plan b = some k → k.plies[b.ply - 1]? = some y → b.prev = some pv →
    let w := Weigh.takeGood n (s.weigh.beginSample 30)
    w.settled = some v →
    (s.weigh.state = .settling → pv + y.target.tdiv 4 < v → (v - pv < y.target - y.tolerance ∨ y.target + y.tolerance < v - pv) →
      (b.rejects < 2 → exec (.scaleSample (.raw n)) s = .next (raiseFault .cell .plyReject (.ply b.ply) { s with
        weigh := { w with state := .plyRejected, build := some { b with rejects := b.rejects + 1 } } })) ∧
      (2 ≤ b.rejects → ∃ t, exec (.scaleSample (.raw n)) s = .next t ∧
        t.weigh = { w with state := .unloading, build := none } ∧ t.cellFaults = s.cellFaults ∧ t.presses = s.presses ∧
        b.counted (raiseFault .cell .plyReject (.ply b.ply) s) t.orders t.events)) ∧
    (s.weigh.state = .settling → pv + y.target.tdiv 4 < v → y.target - y.tolerance ≤ v - pv →
      v - pv ≤ y.target + y.tolerance → k.plies.length ≤ b.ply → ∀ tare, b.tare = some tare →
      (v - tare < (k.plies.map fun u => u.target).sum - k.totalTolerance ∨
        (k.plies.map fun u => u.target).sum + k.totalTolerance < v - tare) →
      ∃ t, exec (.scaleSample (.raw n)) s = .next t ∧ t.weigh = { w with state := .unloading, build := none } ∧
        t.cellFaults = s.cellFaults ∧ t.presses = s.presses ∧
        b.counted (raiseFault .cell .chargeReject .none s) t.orders t.events) ∧
    (s.weigh.state = .plyRejected →
      (pv - w.used.b ≤ v → v ≤ pv + w.used.b → exec (.scaleSample (.raw n)) s = .next { s with weigh :=
        { w with state := .awaitPly, build := some b } }) ∧
      (v < pv - w.used.b ∨ pv + w.used.b < v → exec (.scaleSample (.raw n)) s = .next { s with weigh := w }))) ∧
  (∀ (s : State) (n : Int) (b : Build), s.weigh.build = some b → s.weigh.state.isBuild = true →
    (∀ u, s.weigh.copy.span = some u → 300000 < roundDiv ((n - s.weigh.copy.zero) * u) 65536) → s.weigh.copy.span.isSome = true →
    ∃ t events, exec (.scaleSample (.raw n)) s = .next t ∧
      t.weigh = { Weigh.takeGood n (s.weigh.beginSample 30) with state := .unloading, build := none } ∧
      b.counted s t.orders events ∧ t.events = (raiseFault .cell .overload .none { s with events := events }).events ∧
      t.cellFaults = s.cellFaults ∧ t.presses = s.presses) ∧
  ∀ (s : State) (b : Build), s.weigh.build = some b → s.weigh.state.isBuild = true → s.weigh.tray.raw = false →
    s.weigh.tray.accepted = true → s.weigh.filter ≤ s.weigh.tray.stable →
    ∃ t, exec .trayPresentAccepted s = .next t ∧ b.counted s t.orders t.events ∧
      t.weigh = { s.weigh with tray := ⟨false, s.weigh.tray.stable, false⟩, state := .idle, build := none } ∧
      t.cellFaults = s.cellFaults ∧ t.presses = s.presses

/-- R129 to R132: the calibration requests. CAL_ZERO, CAL_SPAN and CAL_SET write the working copy, set its origin to SET and
empty the windows, in IDLE and in UNCALIBRATED, which the first valid copy leaves for IDLE (no order waits there); CAL_COMMIT
takes the lowest unwritten row and works until the row is written, which makes the row the copy's origin and is answered with the
row's number. Their refusals, in the order of R130 to R132: a field out of its range, a span before a zero, a raw window that holds
too few counts, a reference too light, a span out of its range, a copy that is not valid, no row left. MODEL'S CHOICE: until the
next sample the N counts are those of the N in use (log 46); the windows are emptied even where the values stay as they were
(log 39); BUSY comes before the checks of the fields (log 22); a row's time is that of the write's end (log 32); the end of a
write with none in progress changes nothing (log 3). -/
def Obligations.CalibrationWritesTheCopy : Prop :=
  (∀ s : State, s.weigh.writing = none → exec .calRowWritten s = .next s) ∧
  (∀ (s : State) (w : RowWrite), s.weigh.writing = some w → exec .calRowWritten s = .next (okReply 0x53 [BitVec.ofNat 8 w.row]
    { s with weigh := { s.weigh with
        rows := s.weigh.rows.set (w.row - 1) (some ⟨w.zero, w.span, s.time⟩), writing := none
        copy := { s.weigh.copy with origin := w.row } } })) ∧
  ∀ s : State, s.listening = true →
    (s.weigh.state ≠ .idle → s.weigh.state ≠ .uncalibrated →
      exec (.calZero []) s = .next (refusal 0x50 0x05 0 s) ∧ exec (.calCommit []) s = .next (refusal 0x53 0x05 0 s) ∧
      (∀ payload, payload.length = 4 → exec (.calSpan payload) s = .next (refusal 0x51 0x05 0 s)) ∧
      (∀ payload, payload.length = 8 → exec (.calSet payload) s = .next (refusal 0x52 0x05 0 s))) ∧
    (s.weigh.state = .idle ∨ s.weigh.state = .uncalibrated →
      (∀ m : Nat, m = 0 ∨ 300000 < m → m < 4294967296 → exec (.calSpan (u32 m)) s = .next (refusal 0x51 0x03 1 s)) ∧
      (∀ m : Nat, 1 ≤ m → m ≤ 300000 → s.weigh.copy.zeroSet = false → s.weigh.copy.valid = false →
        exec (.calSpan (u32 m)) s = .next (refusal 0x51 0x04 0 s)) ∧
      (∀ m : Nat, 1 ≤ m → m ≤ 300000 → s.weigh.rawWindow.length < s.weigh.used.n →
        exec (.calSpan (u32 m)) s = .next (refusal 0x51 0x04 0 s)) ∧
      (∀ m : Nat, 1 ≤ m → m ≤ 300000 → s.weigh.copy.zeroSet = true ∨ s.weigh.copy.valid = true →
        s.weigh.used.n ≤ s.weigh.rawWindow.length → 0 < s.weigh.used.n →
        let mean := roundDiv (s.weigh.rawWindow.drop (s.weigh.rawWindow.length - s.weigh.used.n)).sum s.weigh.used.n
        let span := roundDiv ((m : Int) * 65536) (mean - s.weigh.copy.zero).toNat
        (mean - s.weigh.copy.zero < 1000 ∨ span < 1 ∨ 4194303 < span →
          exec (.calSpan (u32 m)) s = .next (refusal 0x51 0x03 1 s))) ∧
      (∀ (zero : Int) (span : Nat), -2147483648 ≤ zero → zero ≤ 2147483647 → span < 4294967296 →
        (zero < -8388608 ∨ 8388607 < zero → exec (.calSet (i32 zero ++ u32 span)) s = .next (refusal 0x52 0x03 1 s)) ∧
        (-8388608 ≤ zero → zero ≤ 8388607 → span = 0 ∨ 4194303 < span →
          exec (.calSet (i32 zero ++ u32 span)) s = .next (refusal 0x52 0x03 2 s))) ∧
      (s.weigh.copy.valid = false → exec (.calCommit []) s = .next (refusal 0x53 0x04 0 s))) ∧
    (s.weigh.state = .idle →
      (s.weigh.used.n ≤ s.weigh.rawWindow.length → 0 < s.weigh.used.n →
        let z := roundDiv (s.weigh.rawWindow.drop (s.weigh.rawWindow.length - s.weigh.used.n)).sum s.weigh.used.n
        exec (.calZero []) s = .next (okReply 0x50 (i32 z) { s with weigh := { s.weigh with
          copy := ⟨z, s.weigh.copy.span, true, s.weigh.copy.spanSet, s.weigh.copy.valid || s.weigh.copy.spanSet, 0⟩
          massWindow := [], averages := [] } })) ∧
      (s.weigh.rawWindow.length < s.weigh.used.n → exec (.calZero []) s = .next (refusal 0x50 0x04 0 s)) ∧
      (∀ m : Nat, 1 ≤ m → m ≤ 300000 → s.weigh.copy.zeroSet = true → s.weigh.used.n ≤ s.weigh.rawWindow.length → 0 < s.weigh.used.n →
        let mean := roundDiv (s.weigh.rawWindow.drop (s.weigh.rawWindow.length - s.weigh.used.n)).sum s.weigh.used.n
        let span := roundDiv ((m : Int) * 65536) (mean - s.weigh.copy.zero).toNat
        (mean - s.weigh.copy.zero < 1000 → exec (.calSpan (u32 m)) s = .next (refusal 0x51 0x03 1 s)) ∧
        (1000 ≤ mean - s.weigh.copy.zero → 1 ≤ span → span ≤ 4194303 →
          exec (.calSpan (u32 m)) s = .next (okReply 0x51 (u32 span.toNat) { s with weigh := { s.weigh with
            copy := ⟨s.weigh.copy.zero, some span.toNat, true, true, true, 0⟩, massWindow := [], averages := [] } }))) ∧
      (∀ (zero : Int) (span : Nat), -8388608 ≤ zero → zero ≤ 8388607 → 1 ≤ span → span ≤ 4194303 →
        exec (.calSet (i32 zero ++ u32 span)) s = .next (okReply 0x52 [] { s with weigh := { s.weigh with
          copy := ⟨zero, some span, true, true, true, 0⟩, massWindow := [], averages := [] } })) ∧
      (∀ (front back : List (Option CalRow)) (k : Nat), s.weigh.copy.valid = true → s.weigh.rows = front ++ none :: back →
        (∀ r ∈ front, r.isSome = true) → s.weigh.copy.span = some k →
        exec (.calCommit []) s = .next { s with
          link := { s.link with port := .working, received := [] }
          weigh := { s.weigh with writing := some ⟨front.length + 1, s.weigh.copy.zero, k⟩ } }) ∧
      (s.weigh.copy.valid = true → (∀ r ∈ s.weigh.rows, r.isSome = true) →
        exec (.calCommit []) s = .next (refusal 0x53 0x08 0 s)) ∧
      (s.weigh.copy.valid = false → exec (.calCommit []) s = .next (refusal 0x53 0x04 0 s))) ∧
    (s.weigh.state = .uncalibrated → s.orders = [] →
      (s.weigh.rawWindow.length < s.weigh.used.n → exec (.calZero []) s = .next (refusal 0x50 0x04 0 s)) ∧
      (s.weigh.used.n ≤ s.weigh.rawWindow.length → 0 < s.weigh.used.n →
        let z := roundDiv (s.weigh.rawWindow.drop (s.weigh.rawWindow.length - s.weigh.used.n)).sum s.weigh.used.n
        exec (.calZero []) s = .next (okReply 0x50 (i32 z) { s with weigh := { s.weigh with
          state := if s.weigh.copy.valid || s.weigh.copy.spanSet then .idle else .uncalibrated
          copy := ⟨z, s.weigh.copy.span, true, s.weigh.copy.spanSet, s.weigh.copy.valid || s.weigh.copy.spanSet, 0⟩
          massWindow := [], averages := [] } })) ∧
      (∀ m : Nat, 1 ≤ m → m ≤ 300000 → s.weigh.copy.zeroSet = false → s.weigh.copy.valid = false →
        exec (.calSpan (u32 m)) s = .next (refusal 0x51 0x04 0 s)) ∧
      (∀ m : Nat, 1 ≤ m → m ≤ 300000 → s.weigh.copy.zeroSet = true → s.weigh.used.n ≤ s.weigh.rawWindow.length → 0 < s.weigh.used.n →
        let mean := roundDiv (s.weigh.rawWindow.drop (s.weigh.rawWindow.length - s.weigh.used.n)).sum s.weigh.used.n
        let span := roundDiv ((m : Int) * 65536) (mean - s.weigh.copy.zero).toNat
        (mean - s.weigh.copy.zero < 1000 → exec (.calSpan (u32 m)) s = .next (refusal 0x51 0x03 1 s)) ∧
        (1000 ≤ mean - s.weigh.copy.zero → 1 ≤ span → span ≤ 4194303 →
          exec (.calSpan (u32 m)) s = .next (okReply 0x51 (u32 span.toNat) { s with weigh := { s.weigh with
            state := .idle, copy := ⟨s.weigh.copy.zero, some span.toNat, true, true, true, 0⟩
            massWindow := [], averages := [] } }))) ∧
      ∀ (zero : Int) (span : Nat), -8388608 ≤ zero → zero ≤ 8388607 → 1 ≤ span → span ≤ 4194303 →
        exec (.calSet (i32 zero ++ u32 span)) s = .next (okReply 0x52 [] { s with weigh := { s.weigh with
          state := .idle, copy := ⟨zero, some span, true, true, true, 0⟩, massWindow := [], averages := [] } }))

/-! ## Charges and ejection -/

/-- R134, R145 to R149, R152: CHARGE_ORDER appends one or two orders for the press and cavity under the captured recipe, each under
a number no waiting order holds, and one appended to an empty queue starts its attempt where the station is IDLE with the tray
present, as an automatic order does; CANCEL_ORDER removes an order and ends its attempt; an expired charge leaves its list, and
auto-order answers it with one order where it may place one. That an expiry command with no charge expired changes nothing is
the model's choice (log 3). -/
def Obligations.OrdersAndExpiries : Prop :=
  ∀ (s : State) (p : PressId) (c : Cavity),
    (∀ ref r (n : Nat), s.listening = true → n = 1 ∨ n = 2 → (s.press p).captured = some ref → s.recipes.find ref.id = some r →
      cavityCode c < r.header.cavities → s.weigh.state ≠ .uncalibrated →
      (8 < s.orders.length + n ∨ 2 < s.supply p c + n →
        exec (.chargeOrder [pressByte p, cavityByte c, BitVec.ofNat 8 n]) s = .next (refusal 0x58 0x08 0 s)) ∧
      (s.orders.length + n ≤ 8 → s.supply p c + n ≤ 2 → s.nextOrder < 256 →
        ∃ t new, exec (.chargeOrder [pressByte p, cavityByte c, BitVec.ofNat 8 n]) s = .next t ∧
          t.orders = s.orders ++ new ∧ new.length = n ∧
          (∀ o ∈ new, o.press = p ∧ o.cavity = c ∧ o.recipe = ref ∧ o.attempts = 0 ∧ o.number < 256) ∧
          ((s.orders.map fun o => o.number).Nodup → (t.orders.map fun o => o.number).Nodup) ∧
          t.link.reply = some ⟨0x58, 0 :: BitVec.ofNat 8 n :: new.map fun o => BitVec.ofNat 8 o.number⟩ ∧
          t.supply p c = s.supply p c + n ∧ s.attemptStarts new t.weigh ∧ (∀ q, t.press q = s.press q) ∧ t.history = s.history ∧ t.events = s.events)) ∧
    (∀ n : Byte, s.listening = true →
      ((∀ o ∈ s.orders, o.number ≠ n.toNat) → exec (.cancelOrder [n]) s = .next (refusal 0x59 0x0A 0 s)) ∧
      ((∃ o ∈ s.orders, o.number = n.toNat) → ∃ t, exec (.cancelOrder [n]) s = .next t ∧ t.link.reply = some ⟨0x59, [0]⟩ ∧
        t.orders = (s.orders.filter fun o => decide (o.number ≠ n.toNat)) ∧
        (∀ b, s.weigh.build = some b → b.order = n.toNat → t.weigh = { s.weigh with state := .unloading, build := none }) ∧
        (∀ b, s.weigh.build = some b → b.order ≠ n.toNat → s.weigh.state ≠ .idle → t.weigh = s.weigh) ∧
        (∀ q, t.press q = s.press q) ∧ t.events = s.events)) ∧
    (∀ (front back : List Charge) (ch : Charge), (s.press p).staging.get c = front ++ ch :: back →
      (∀ x ∈ front, x.expired s.time = false) → (ch.expiry - ch.weighed).toNat ≤ (s.time - ch.weighed).toNat →
      let u := queueEvent .chargeExpired (some p) (.charge c) (some ch.number)
        (s.updPress p fun pr => { pr with staging := pr.staging.upd c fun _ => front ++ back })
      ((s.press p).autoOrder = false ∨ (s.press p).heatMode ≠ .run ∨ (s.press p).captured = none ∨
          s.weigh.state = .uncalibrated ∨ 8 ≤ s.orders.length ∨ 2 < s.supply p c → exec (.chargeExpiry p c) s = .next u) ∧
      (∀ ref r, (s.press p).autoOrder = true → (s.press p).heatMode = .run → (s.press p).captured = some ref →
        s.recipes.find ref.id = some r → cavityCode c < r.header.cavities → s.weigh.state ≠ .uncalibrated →
        s.orders.length < 8 → s.supply p c ≤ 2 →
        ∃ t k, exec (.chargeExpiry p c) s = .next t ∧ t.orders = s.orders ++ [⟨k, p, c, ref, 0⟩] ∧
          s.attemptStarts [⟨k, p, c, ref, 0⟩] t.weigh ∧
          (∀ o ∈ s.orders, o.number ≠ k) ∧ t.nextOrder = (k + 1) % 256 ∧ t.presses = u.presses ∧ t.events = u.events ∧
          t.history = s.history)) ∧
    ((∀ x ∈ (s.press p).staging.get c, x.expired s.time = false) → exec (.chargeExpiry p c) s = .next s)

/-- R156 to R163: the end of a follower's delay starts its stroke, but where the delay ends with its cavity's attempt timer the
timeout comes first and the delay's end changes nothing (R161); the end of a stroke rests the channel; an attempt that times out
is followed by one a step harder, which restarts the delays, or, at the last one, by STUCK_PART, which holds the press and halts
the cavity. The demould summaries of the OPEN records follow the items of the ejection (R166). -/
def Obligations.EjectionTimers : Prop :=
  ∀ (s : State) (p : PressId) (r : Recipe), (s.press p).state = .ejecting → s.boundRecipe p = some r →
    (∀ ch c, (s.press p).eject.channels.get ch = .delaying 0 → channelCavity r.eject r.header.cavities ch = some c →
      ((s.press p).eject.cavities.get c).state = .attempting →
      (((s.press p).eject.cavities.get c).timer = some 0 → exec (.followerDelayEnd p ch) s = .next s) ∧
      (((s.press p).eject.cavities.get c).timer ≠ some 0 → ∃ t, exec (.followerDelayEnd p ch) s = .next t ∧
        (t.press p).eject.channels.get ch = .stroking (r.eject.channels.get ch).stroke
          (min 4 ((r.eject.channels.get ch).force + ((s.press p).eject.cavities.get c).escalation)) ∧
        ((t.press p).eject.cavities.get c).totalStrokes
          = min 65535 (((s.press p).eject.cavities.get c).totalStrokes + 1) ∧
        (∀ k, k ≠ ch → (t.press p).eject.channels.get k = (s.press p).eject.channels.get k) ∧
        (t.press p).state = .ejecting ∧ (t.press p).ejectOut ch = true ∧ s.demouldFollows p t ∧ s.sameOutside p t)) ∧
    (∀ ch f, (s.press p).eject.channels.get ch = .stroking 0 f →
      ((∃ k, k ≠ ch ∧ ((s.press p).eject.channels.get k).isStroking = true) ∨
          ∃ c ∈ cavitiesOf r.header.cavities, ((s.press p).eject.cavities.get c).state ≠ .released) →
      exec (.strokeEnd p ch) s = .next (s.updPress p fun pr =>
        { pr with eject := { pr.eject with channels := pr.eject.channels.upd ch fun _ => .idle } })) ∧
    (∀ ch f, (s.press p).eject.channels.get ch = .stroking 0 f →
      (∀ k, k ≠ ch → ((s.press p).eject.channels.get k).isStroking = false) →
      (∀ c ∈ cavitiesOf r.header.cavities, ((s.press p).eject.cavities.get c).state = .released) →
      (s.press p).level .unloadedSw = false →
      exec (.strokeEnd p ch) s = .next (queueEntry p .clearing (s.updPress p fun pr =>
        { pr.entered .clearing { Timers.none with clearT := pr.config.map fun k => k.clearTimeout * 1000 } with
          eject := { pr.eject with channels := pr.eject.channels.upd ch fun _ => .idle } }))) ∧
    (∀ c, ((s.press p).eject.cavities.get c).state = .attempting → ((s.press p).eject.cavities.get c).timer = some 0 →
      (((s.press p).eject.cavities.get c).seqAttempts < r.eject.maxAttempts →
        ∃ t, exec (.attemptTimerExpiry p c) s = .next t ∧ (t.press p).state = .ejecting ∧
          ((t.press p).eject.cavities.get c).state = .attempting ∧
          ((t.press p).eject.cavities.get c).seqAttempts = ((s.press p).eject.cavities.get c).seqAttempts + 1 ∧
          ((t.press p).eject.cavities.get c).timer = some r.eject.releaseTimeout ∧
          ((t.press p).eject.cavities.get c).start = some s.time ∧
          ((∃ ch ∈ cavityChannels r.eject r.header.cavities c,
              (r.eject.channels.get ch).force + ((s.press p).eject.cavities.get c).escalation < 4) →
            ((t.press p).eject.cavities.get c).escalation = ((s.press p).eject.cavities.get c).escalation + 1) ∧
          ((∀ ch ∈ cavityChannels r.eject r.header.cavities c,
              4 ≤ (r.eject.channels.get ch).force + ((s.press p).eject.cavities.get c).escalation) →
            ((t.press p).eject.cavities.get c).escalation = ((s.press p).eject.cavities.get c).escalation) ∧
          (∀ ch ∈ cavityChannels r.eject r.header.cavities c, (r.eject.channels.get ch).role = .lead →
            (t.press p).eject.channels.get ch = .stroking (r.eject.channels.get ch).stroke
              (min 4 ((r.eject.channels.get ch).force + ((t.press p).eject.cavities.get c).escalation))) ∧
          (∀ ch ∈ cavityChannels r.eject r.header.cavities c, (r.eject.channels.get ch).role = .follow →
            (r.eject.channels.get ch).delay ≠ 0 → ((s.press p).eject.channels.get ch).isStroking = false →
            (t.press p).eject.channels.get ch = .delaying (r.eject.channels.get ch).delay) ∧
          s.demouldFollows p t ∧ s.sameOutside p t) ∧
      (r.eject.maxAttempts ≤ ((s.press p).eject.cavities.get c).seqAttempts →
        ∃ t, exec (.attemptTimerExpiry p c) s = .next t ∧ (t.press p).state = .held ∧ (t.press p).prior = some .ejecting ∧
          ((t.press p).eject.cavities.get c).state = .halted ∧ ((t.press p).eject.cavities.get c).stuck = true ∧
          ((t.press p).eject.cavities.get c).timer = none ∧ (t.press p).hasFault .stuckPart (.cavity c) ∧
          (∀ ch, (t.press p).ejectOut ch = false) ∧ s.demouldFollows p t ∧ s.sameOutside p t))

/-! ## Part history -/

/-- R175, R176: at UNLOADED in CLEARING the OPEN records of the press close with their verdict, UNDERCURED where the cure
summary carries the mark, else SUSPECT with any of the five reasons and GOOD with none; at an ABORT in a cycle or HELD and at a
cell reset they close ABORTED, with their reasons all the same; PART_CLOSED is queued for each in serial order. No other record
changes: at a cell reset where no OPEN record belongs to a press outside a cycle, the invariant OpenOnlyInCycle that
StepsKeepOpenRecordsInCycles keeps. No proving run is in progress where an ABORT is stated. MODEL'S CHOICE (log 70): at an ABORT the
PART_CLOSED events stand before the PRESS_STATE. -/
def Obligations.RecordsCloseWithTheirVerdict : Prop :=
  ∀ s : State,
    (∀ p, (s.press p).state = .clearing → s.pressFilter ≤ ((s.press p).inputs.get .unloadedSw).stable →
      ((s.press p).inputs.get .unloadedSw).raw = true → (s.press p).level .unloadedSw = false →
      ∃ t, exec (.pressInputAccepted p .unloadedSw) s = .next t ∧ s.closesRecords p false t) ∧
    (∀ p, s.listening = true → (s.press p).state.inCycle = true ∨ (s.press p).state = .held →
      (s.press p).run.state ≠ .running → ∃ t, exec (.abort [pressByte p]) s = .next t ∧ s.closesRecords p true t) ∧
    (s.listening = true → ∃ t, exec (.cellReset []) s = .next t ∧ t.history.counter = s.history.counter ∧
      t.history.records.length = s.history.records.length ∧
      ∀ (i : Nat) (r r' : PartRecord), s.history.records[i]? = some r → t.history.records[i]? = some r' →
        (r.close = none ∧ (s.press r.press).configured = true → r.closesTo s true r') ∧
        (s.OpenOnlyInCycle → ¬(r.close = none ∧ (s.press r.press).configured = true) → r' = r))

/-- R178 to R181, R204: HISTORY_READ returns a part of the record and sets the read flag of a CLOSED one; HISTORY_NOTE writes
the note of a CLOSED record; HISTORY_RELEASE frees exactly the CLOSED records at or below its serial and keeps the others in
order (auto-load is off on every press where a release is stated). The notes are refused as R180 says; that a bad character
names field 2, the text, is the model's choice (log 43). SET_NEXT_SERIAL carries a serial, 1 to 4,294,967,295; 0 is refused with
BAD_ARG, a log that holds any record with BAD_STATE; otherwise the serial counter takes the value and the reply is OK. -/
def Obligations.RecordsAreReadNotedReleased : Prop :=
  (∀ s : State, s.listening = true →
    (∀ (serial : Nat) (second : Bool) (r : PartRecord), serial < 4294967296 → s.history.find serial = some r →
      exec (.historyRead (u32 serial ++ [if second then 1 else 0])) s = .next (okReply 0x71
        (if second then partOne r else partZero r)
        { s with history := { s.history with records := s.history.records.map fun x =>
            if x.serial = serial ∧ x.close.isSome = true then { x with readFlag := true } else x } })) ∧
    (∀ (serial : Nat) (b : Byte), serial < 4294967296 → b.toNat ≤ 1 → s.history.find serial = none →
      exec (.historyRead (u32 serial ++ [b])) s = .next (refusal 0x71 0x0A 0 s)) ∧
    (∀ (serial : Nat) (r : PartRecord) (text : Payload), serial < 4294967296 → s.history.find serial = some r →
      text.length ≤ 24 → (r.close = none → exec (.historyNote (u32 serial ++ text)) s = .next (refusal 0x74 0x04 0 s)) ∧
      (r.close ≠ none → (∀ b ∈ text, 32 ≤ b.toNat ∧ b.toNat ≤ 126) →
        exec (.historyNote (u32 serial ++ text)) s = .next (okReply 0x74 []
          { s with history := { s.history with records := s.history.records.map fun x =>
              if x.serial = serial then { x with note := if text = [] then none else some text } else x } })) ∧
      (r.close ≠ none → (∃ b ∈ text, b.toNat < 32 ∨ 126 < b.toNat) →
        exec (.historyNote (u32 serial ++ text)) s = .next (refusal 0x74 0x03 2 s))) ∧
    (∀ (serial : Nat) (text : Payload), serial < 4294967296 → text.length ≤ 24 → s.history.find serial = none →
      exec (.historyNote (u32 serial ++ text)) s = .next (refusal 0x74 0x0A 0 s)) ∧
    (∀ (serial : Nat) (text : Payload), 24 < text.length →
      exec (.historyNote (u32 serial ++ text)) s = .next (refusal 0x74 0x02 0 s)) ∧
    (∀ serial : Nat, serial < 4294967296 → (∀ p, s.autoLoadOff p) →
      exec (.historyRelease (u32 serial)) s = .next (okReply 0x73
        (u16 (s.history.records.countP fun x => x.close.isSome && decide (x.serial ≤ serial))
          ++ u16 (s.history.records.countP fun x => !(x.close.isSome && decide (x.serial ≤ serial))))
        { s with history := { s.history with records := s.history.records.filter fun x =>
            !(x.close.isSome && decide (x.serial ≤ serial)) } }))) ∧
  ∀ s : State, s.listening = true →
    (exec (.setNextSerial (u32 0)) s = .next (refusal 0x75 0x03 1 s)) ∧
    (∀ n, 1 ≤ n → n ≤ 4294967295 → s.history.records ≠ [] →
      exec (.setNextSerial (u32 n)) s = .next (refusal 0x75 0x04 0 s)) ∧
    (∀ n, 1 ≤ n → n ≤ 4294967295 → s.history.records = [] →
      exec (.setNextSerial (u32 n)) s = .next (okReply 0x75 [] { s with history := { s.history with counter := some n } }))

/-! ## What every step keeps -/

/-- R190: the event queue never holds more than 64 entries, whatever step the part takes. -/
def Obligations.StepsKeepTheEventBound : Prop :=
  ∀ s t : State, s.EventsBounded → step s = .next t → t.EventsBounded

/-- R153, R134: the staged charges and queued orders of a press and cavity never come to more than 2, whatever step the part
takes; the build in hand serves a queued order, which is what makes a charge take its order's place. A staged charge stands in
the list of its own press and cavity (R148), and a build is in hand exactly in the build states (R139). -/
def Obligations.StepsKeepTheSupplyBound : Prop :=
  (∀ s t : State, s.SupplyBounded → s.BuildServed → step s = .next t → t.SupplyBounded ∧ t.BuildServed) ∧
  (∀ s t : State, s.StagedInPlace → step s = .next t → t.StagedInPlace) ∧
  ∀ s t : State, s.BuildInBuildStates → step s = .next t → t.BuildInBuildStates

/-- R169, R171: the serials in the log increase and lie below the counter, and the log never holds more than 512 records,
whatever step the part takes. -/
def Obligations.StepsKeepTheLogOrdered : Prop :=
  ∀ s t : State, s.SerialsOrdered → s.LogBounded → step s = .next t → t.SerialsOrdered ∧ t.LogBounded

/-- R169: a press has OPEN records, one for each cavity of its bound recipe, exactly while it is in a cycle or held from one,
whatever step the part takes; no two slots hold one recipe id (R3), and a press has a prior state exactly in HELD. -/
def Obligations.StepsKeepOpenRecordsInCycles : Prop :=
  ∀ s t : State, (∀ p, (s.press p).PriorMatches) → step s = .next t →
    (∀ p, (t.press p).PriorMatches) ∧ (s.OpenOnlyInCycle → t.OpenOnlyInCycle) ∧
    (s.SlotIdsDistinct → t.SlotIdsDistinct) ∧ (s.SlotIdsDistinct → s.OpenExactlyInCycle → t.OpenExactlyInCycle)

/-- R176: a part record closed GOOD or SUSPECT belongs to a cavity that was cure-complete, whatever step the part takes; the
undercured marks and completions of the records in progress see to it. -/
def Obligations.StepsKeepTheVerdictsSound : Prop :=
  ∀ s t : State, (∀ p, (s.press p).PriorMatches) → s.SlotIdsDistinct → s.OpenExactlyInCycle → s.VerdictsSound →
    step s = .next t → t.VerdictsSound

/-- R101: the sum of the grants of the latest round never exceeds the feed limit in force at that round, whatever step the part
takes. -/
def Obligations.StepsKeepTheGrantsWithinTheLimit : Prop :=
  ∀ s t : State, s.feed.WithinLimit → step s = .next t → t.feed.WithinLimit

/-- R93, R94: the boards of every press hold the drive duty of each zone, and 0 where the grid has no zone, whatever step the
part takes: every change of a drive duty has been sent. -/
def Obligations.StepsKeepTheBoardsAtTheirDuties : Prop :=
  ∀ s t : State, (∀ p, (s.press p).BoardsFollow) → step s = .next t → ∀ p, (t.press p).BoardsFollow

/-- R111: a zone's cure dose never decreases, but to 0 where a new cure begins, with a new grid, or at a cell reset (a power-on
and a RESET pin reset leave no zone), whatever step the part takes. -/
def Obligations.StepsNeverLowerADose : Prop :=
  ∀ (s t : State) (p : PressId) (i : Nat) (z z' : Zone), step s = .next t → (s.press p).zones[i]? = some z →
    (t.press p).zones[i]? = some z' → z.dose ≤ 4294967295 → z'.dose ≤ 4294967295 ∧
      (z.dose ≤ z'.dose ∨ (z'.dose = 0 ∧
        (((t.press p).state = .curing ∧ (t.press p).cure.state = .running ∧ (t.press p).cure.ticks = 0 ∧
            (t.press p).cure.closedTime = some s.time) ∨
          (∃ payload, s.pending.head? = some (.pressConfig payload) ∧
            (t.press p).config.map (fun c => (c.rows, c.cols)) ≠ (s.press p).config.map fun c => (c.rows, c.cols)) ∨
          ∃ payload, s.pending.head? = some (.cellReset payload))))
end

