-- ==== Sys2Proof/Laws/State.lean ====
section
/-! SUPPORT. What each update of a state leaves and sets, one lemma for each field, so that no later proof unfolds a
record update. -/

namespace Sys2Proof.Machine

/-! ## Collections of fixed size -/

@[simp] theorem Four.get_upd_same {α : Type} (f : Four α) (p : PressId) (g : α → α) : (f.upd p g).get p = g (f.get p) := by
  cases p <;> rfl

theorem Four.get_upd_ne {α : Type} (f : Four α) {p q : PressId} (g : α → α) (h : q ≠ p) : (f.upd p g).get q = f.get q := by
  cases p <;> cases q <;> first | rfl | exact absurd rfl h

@[simp] theorem Four.upd_upd {α : Type} (f : Four α) (p : PressId) (g h : α → α) :
    (f.upd p g).upd p h = f.upd p fun x => h (g x) := by
  cases p <;> rfl

@[simp] theorem Two.get_upd_same {α : Type} (f : Two α) (c : Cavity) (g : α → α) : (f.upd c g).get c = g (f.get c) := by
  cases c <;> rfl

theorem Two.get_upd_ne {α : Type} (f : Two α) {c d : Cavity} (g : α → α) (h : d ≠ c) : (f.upd c g).get d = f.get d := by
  cases c <;> cases d <;> first | rfl | exact absurd rfl h

@[simp] theorem Channels.get_upd_same {α : Type} (f : Channels α) (c : Channel) (g : α → α) :
    (f.upd c g).get c = g (f.get c) := by
  cases c <;> rfl

theorem Channels.get_upd_ne {α : Type} (f : Channels α) {c d : Channel} (g : α → α) (h : d ≠ c) :
    (f.upd c g).get d = f.get d := by
  cases c <;> cases d <;> first | rfl | exact absurd rfl h

@[simp] theorem Inputs.get_upd_same (i : Inputs) (k : PressInput) (f : Filtered → Filtered) :
    (i.upd k f).get k = f (i.get k) := by
  cases k <;> rfl

theorem Inputs.get_upd_ne (i : Inputs) {k j : PressInput} (f : Filtered → Filtered) (h : j ≠ k) :
    (i.upd k f).get j = i.get j := by
  cases k <;> cases j <;> first | rfl | exact absurd rfl h

/-! ## One press changed -/

@[simp] theorem State.press_updPress_same (s : State) (p : PressId) (f : Press → Press) :
    (s.updPress p f).press p = f (s.press p) := Four.get_upd_same s.presses p f

theorem State.press_updPress_ne (s : State) {p q : PressId} (f : Press → Press) (h : q ≠ p) :
    (s.updPress p f).press q = s.press q := Four.get_upd_ne s.presses f h

@[simp] theorem State.updPress_updPress (s : State) (p : PressId) (f g : Press → Press) :
    (s.updPress p f).updPress p g = s.updPress p fun x => g (f x) := by
  simp [State.updPress]

@[simp] theorem State.updPress_pending (s : State) (p : PressId) (f : Press → Press) : (s.updPress p f).pending = s.pending := rfl

@[simp] theorem State.updPress_choice (s : State) (p : PressId) (f : Press → Press) : (s.updPress p f).choice = s.choice := rfl

@[simp] theorem State.updPress_time (s : State) (p : PressId) (f : Press → Press) : (s.updPress p f).time = s.time := rfl

@[simp] theorem State.updPress_link (s : State) (p : PressId) (f : Press → Press) : (s.updPress p f).link = s.link := rfl

@[simp] theorem State.updPress_restart (s : State) (p : PressId) (f : Press → Press) : (s.updPress p f).restart = s.restart := rfl

@[simp] theorem State.updPress_recipes (s : State) (p : PressId) (f : Press → Press) : (s.updPress p f).recipes = s.recipes := rfl

@[simp] theorem State.updPress_pressFilter (s : State) (p : PressId) (f : Press → Press) : (s.updPress p f).pressFilter = s.pressFilter := rfl

@[simp] theorem State.updPress_feed (s : State) (p : PressId) (f : Press → Press) : (s.updPress p f).feed = s.feed := rfl

@[simp] theorem State.updPress_weigh (s : State) (p : PressId) (f : Press → Press) : (s.updPress p f).weigh = s.weigh := rfl

@[simp] theorem State.updPress_orders (s : State) (p : PressId) (f : Press → Press) : (s.updPress p f).orders = s.orders := rfl

@[simp] theorem State.updPress_nextOrder (s : State) (p : PressId) (f : Press → Press) : (s.updPress p f).nextOrder = s.nextOrder := rfl

@[simp] theorem State.updPress_history (s : State) (p : PressId) (f : Press → Press) : (s.updPress p f).history = s.history := rfl

@[simp] theorem State.updPress_cellFaults (s : State) (p : PressId) (f : Press → Press) : (s.updPress p f).cellFaults = s.cellFaults := rfl

@[simp] theorem State.updPress_events (s : State) (p : PressId) (f : Press → Press) : (s.updPress p f).events = s.events := rfl

/-! ## The weigh station changed -/

@[simp] theorem dropBuild_pending (st : StationState) (s : State) : (dropBuild st s).pending = s.pending := rfl

@[simp] theorem dropBuild_choice (st : StationState) (s : State) : (dropBuild st s).choice = s.choice := rfl

@[simp] theorem dropBuild_time (st : StationState) (s : State) : (dropBuild st s).time = s.time := rfl

@[simp] theorem dropBuild_link (st : StationState) (s : State) : (dropBuild st s).link = s.link := rfl

@[simp] theorem dropBuild_restart (st : StationState) (s : State) : (dropBuild st s).restart = s.restart := rfl

@[simp] theorem dropBuild_recipes (st : StationState) (s : State) : (dropBuild st s).recipes = s.recipes := rfl

@[simp] theorem dropBuild_pressFilter (st : StationState) (s : State) : (dropBuild st s).pressFilter = s.pressFilter := rfl

@[simp] theorem dropBuild_presses (st : StationState) (s : State) : (dropBuild st s).presses = s.presses := rfl

@[simp] theorem dropBuild_feed (st : StationState) (s : State) : (dropBuild st s).feed = s.feed := rfl

@[simp] theorem dropBuild_orders (st : StationState) (s : State) : (dropBuild st s).orders = s.orders := rfl

@[simp] theorem dropBuild_nextOrder (st : StationState) (s : State) : (dropBuild st s).nextOrder = s.nextOrder := rfl

@[simp] theorem dropBuild_history (st : StationState) (s : State) : (dropBuild st s).history = s.history := rfl

@[simp] theorem dropBuild_cellFaults (st : StationState) (s : State) : (dropBuild st s).cellFaults = s.cellFaults := rfl

@[simp] theorem dropBuild_events (st : StationState) (s : State) : (dropBuild st s).events = s.events := rfl

@[simp] theorem dropBuild_build (st : StationState) (s : State) : (dropBuild st s).weigh.build = none := rfl

@[simp] theorem dropBuild_state (st : StationState) (s : State) : (dropBuild st s).weigh.state = st := rfl

@[simp] theorem dropBuild_press (st : StationState) (s : State) (p : PressId) : (dropBuild st s).press p = s.press p := rfl

/-! ## The OPEN records of a press changed -/

@[simp] theorem updOpen_pending (p : PressId) (f : PartRecord → PartRecord) (s : State) : (updOpen p f s).pending = s.pending := rfl

@[simp] theorem updOpen_choice (p : PressId) (f : PartRecord → PartRecord) (s : State) : (updOpen p f s).choice = s.choice := rfl

@[simp] theorem updOpen_time (p : PressId) (f : PartRecord → PartRecord) (s : State) : (updOpen p f s).time = s.time := rfl

@[simp] theorem updOpen_link (p : PressId) (f : PartRecord → PartRecord) (s : State) : (updOpen p f s).link = s.link := rfl

@[simp] theorem updOpen_restart (p : PressId) (f : PartRecord → PartRecord) (s : State) : (updOpen p f s).restart = s.restart := rfl

@[simp] theorem updOpen_recipes (p : PressId) (f : PartRecord → PartRecord) (s : State) : (updOpen p f s).recipes = s.recipes := rfl

@[simp] theorem updOpen_pressFilter (p : PressId) (f : PartRecord → PartRecord) (s : State) : (updOpen p f s).pressFilter = s.pressFilter := rfl

@[simp] theorem updOpen_presses (p : PressId) (f : PartRecord → PartRecord) (s : State) : (updOpen p f s).presses = s.presses := rfl

@[simp] theorem updOpen_feed (p : PressId) (f : PartRecord → PartRecord) (s : State) : (updOpen p f s).feed = s.feed := rfl

@[simp] theorem updOpen_weigh (p : PressId) (f : PartRecord → PartRecord) (s : State) : (updOpen p f s).weigh = s.weigh := rfl

@[simp] theorem updOpen_orders (p : PressId) (f : PartRecord → PartRecord) (s : State) : (updOpen p f s).orders = s.orders := rfl

@[simp] theorem updOpen_nextOrder (p : PressId) (f : PartRecord → PartRecord) (s : State) : (updOpen p f s).nextOrder = s.nextOrder := rfl

@[simp] theorem updOpen_cellFaults (p : PressId) (f : PartRecord → PartRecord) (s : State) : (updOpen p f s).cellFaults = s.cellFaults := rfl

@[simp] theorem updOpen_events (p : PressId) (f : PartRecord → PartRecord) (s : State) : (updOpen p f s).events = s.events := rfl

@[simp] theorem updOpen_press (p q : PressId) (f : PartRecord → PartRecord) (s : State) :
    (updOpen p f s).press q = s.press q := rfl

@[simp] theorem updOpen_counter (p : PressId) (f : PartRecord → PartRecord) (s : State) :
    (updOpen p f s).history.counter = s.history.counter := rfl

@[simp] theorem updOpen_records_length (p : PressId) (f : PartRecord → PartRecord) (s : State) :
    (updOpen p f s).history.records.length = s.history.records.length := by
  simp [updOpen]

/-! ## An event queued -/

/-- Everything that queueing an event can do (R190, R192). -/
theorem queueEvent_cases (k : EventKind) (pr : Option PressId) (d : Detail) (n : Option Nat) (s : State) :
    (s.events.disabled.contains k = true ∧ queueEvent k pr d n s = s) ∨
    (s.events.disabled.contains k = false ∧ 64 ≤ s.events.queue.length ∧
      queueEvent k pr d n s = { s with events := { s.events with overflow := true } }) ∨
    (s.events.disabled.contains k = false ∧ s.events.queue.length < 64 ∧
      queueEvent k pr d n s = { s with events := { s.events with queue := s.events.queue ++ [⟨k, pr, d, n, s.time⟩] } }) := by
  unfold queueEvent
  split
  · exact .inl ⟨‹_›, rfl⟩
  · split
    · exact .inr (.inl ⟨by simpa using ‹¬ s.events.disabled.contains k = true›, ‹_›, rfl⟩)
    · exact .inr (.inr ⟨by simpa using ‹¬ s.events.disabled.contains k = true›, by omega, rfl⟩)

@[simp] theorem queueEvent_pending (k : EventKind) (pr : Option PressId) (d : Detail) (n : Option Nat) (s : State) :
    (queueEvent k pr d n s).pending = s.pending := by
  unfold queueEvent; split <;> [rfl; split <;> rfl]

@[simp] theorem queueEvent_choice (k : EventKind) (pr : Option PressId) (d : Detail) (n : Option Nat) (s : State) :
    (queueEvent k pr d n s).choice = s.choice := by
  unfold queueEvent; split <;> [rfl; split <;> rfl]

@[simp] theorem queueEvent_time (k : EventKind) (pr : Option PressId) (d : Detail) (n : Option Nat) (s : State) :
    (queueEvent k pr d n s).time = s.time := by
  unfold queueEvent; split <;> [rfl; split <;> rfl]

@[simp] theorem queueEvent_link (k : EventKind) (pr : Option PressId) (d : Detail) (n : Option Nat) (s : State) :
    (queueEvent k pr d n s).link = s.link := by
  unfold queueEvent; split <;> [rfl; split <;> rfl]

@[simp] theorem queueEvent_restart (k : EventKind) (pr : Option PressId) (d : Detail) (n : Option Nat) (s : State) :
    (queueEvent k pr d n s).restart = s.restart := by
  unfold queueEvent; split <;> [rfl; split <;> rfl]

@[simp] theorem queueEvent_recipes (k : EventKind) (pr : Option PressId) (d : Detail) (n : Option Nat) (s : State) :
    (queueEvent k pr d n s).recipes = s.recipes := by
  unfold queueEvent; split <;> [rfl; split <;> rfl]

@[simp] theorem queueEvent_pressFilter (k : EventKind) (pr : Option PressId) (d : Detail) (n : Option Nat) (s : State) :
    (queueEvent k pr d n s).pressFilter = s.pressFilter := by
  unfold queueEvent; split <;> [rfl; split <;> rfl]

@[simp] theorem queueEvent_presses (k : EventKind) (pr : Option PressId) (d : Detail) (n : Option Nat) (s : State) :
    (queueEvent k pr d n s).presses = s.presses := by
  unfold queueEvent; split <;> [rfl; split <;> rfl]

@[simp] theorem queueEvent_feed (k : EventKind) (pr : Option PressId) (d : Detail) (n : Option Nat) (s : State) :
    (queueEvent k pr d n s).feed = s.feed := by
  unfold queueEvent; split <;> [rfl; split <;> rfl]

@[simp] theorem queueEvent_weigh (k : EventKind) (pr : Option PressId) (d : Detail) (n : Option Nat) (s : State) :
    (queueEvent k pr d n s).weigh = s.weigh := by
  unfold queueEvent; split <;> [rfl; split <;> rfl]

@[simp] theorem queueEvent_orders (k : EventKind) (pr : Option PressId) (d : Detail) (n : Option Nat) (s : State) :
    (queueEvent k pr d n s).orders = s.orders := by
  unfold queueEvent; split <;> [rfl; split <;> rfl]

@[simp] theorem queueEvent_nextOrder (k : EventKind) (pr : Option PressId) (d : Detail) (n : Option Nat) (s : State) :
    (queueEvent k pr d n s).nextOrder = s.nextOrder := by
  unfold queueEvent; split <;> [rfl; split <;> rfl]

@[simp] theorem queueEvent_history (k : EventKind) (pr : Option PressId) (d : Detail) (n : Option Nat) (s : State) :
    (queueEvent k pr d n s).history = s.history := by
  unfold queueEvent; split <;> [rfl; split <;> rfl]

@[simp] theorem queueEvent_cellFaults (k : EventKind) (pr : Option PressId) (d : Detail) (n : Option Nat) (s : State) :
    (queueEvent k pr d n s).cellFaults = s.cellFaults := by
  unfold queueEvent; split <;> [rfl; split <;> rfl]

@[simp] theorem queueEvent_press (k : EventKind) (pr : Option PressId) (d : Detail) (n : Option Nat) (s : State) (q : PressId) :
    (queueEvent k pr d n s).press q = s.press q := by
  simp [State.press]

@[simp] theorem queueEvent_disabled (k : EventKind) (pr : Option PressId) (d : Detail) (n : Option Nat) (s : State) :
    (queueEvent k pr d n s).events.disabled = s.events.disabled := by
  unfold queueEvent; split <;> [rfl; split <;> rfl]

/-- Queueing an event commutes with a change of one press. -/
theorem queueEvent_updPress (k : EventKind) (pr : Option PressId) (d : Detail) (n : Option Nat) (s : State) (p : PressId)
    (f : Press → Press) : queueEvent k pr d n (s.updPress p f) = (queueEvent k pr d n s).updPress p f := by
  by_cases h : s.events.disabled.contains k = true
  · rw [queueEvent, queueEvent, if_pos h, if_pos (show (s.updPress p f).events.disabled.contains k = true from h)]
  · rw [queueEvent, queueEvent, if_neg h, if_neg (show ¬ (s.updPress p f).events.disabled.contains k = true from h)]
    by_cases h64 : 64 ≤ s.events.queue.length
    · rw [if_pos h64, if_pos (show 64 ≤ (s.updPress p f).events.queue.length from h64)]; rfl
    · rw [if_neg h64, if_neg (show ¬ 64 ≤ (s.updPress p f).events.queue.length from h64)]; rfl

/-! ## A reply sent -/

@[simp] theorem sendReply_pending (type : Byte) (payload : Payload) (s : State) : (sendReply type payload s).pending = s.pending := rfl

@[simp] theorem sendReply_choice (type : Byte) (payload : Payload) (s : State) : (sendReply type payload s).choice = s.choice := rfl

@[simp] theorem sendReply_time (type : Byte) (payload : Payload) (s : State) : (sendReply type payload s).time = s.time := rfl

@[simp] theorem sendReply_restart (type : Byte) (payload : Payload) (s : State) : (sendReply type payload s).restart = s.restart := rfl

@[simp] theorem sendReply_recipes (type : Byte) (payload : Payload) (s : State) : (sendReply type payload s).recipes = s.recipes := rfl

@[simp] theorem sendReply_pressFilter (type : Byte) (payload : Payload) (s : State) : (sendReply type payload s).pressFilter = s.pressFilter := rfl

@[simp] theorem sendReply_presses (type : Byte) (payload : Payload) (s : State) : (sendReply type payload s).presses = s.presses := rfl

@[simp] theorem sendReply_feed (type : Byte) (payload : Payload) (s : State) : (sendReply type payload s).feed = s.feed := rfl

@[simp] theorem sendReply_weigh (type : Byte) (payload : Payload) (s : State) : (sendReply type payload s).weigh = s.weigh := rfl

@[simp] theorem sendReply_orders (type : Byte) (payload : Payload) (s : State) : (sendReply type payload s).orders = s.orders := rfl

@[simp] theorem sendReply_nextOrder (type : Byte) (payload : Payload) (s : State) : (sendReply type payload s).nextOrder = s.nextOrder := rfl

@[simp] theorem sendReply_history (type : Byte) (payload : Payload) (s : State) : (sendReply type payload s).history = s.history := rfl

@[simp] theorem sendReply_cellFaults (type : Byte) (payload : Payload) (s : State) : (sendReply type payload s).cellFaults = s.cellFaults := rfl

@[simp] theorem sendReply_events (type : Byte) (payload : Payload) (s : State) : (sendReply type payload s).events = s.events := rfl

@[simp] theorem sendReply_press (type : Byte) (payload : Payload) (s : State) (p : PressId) :
    (sendReply type payload s).press p = s.press p := rfl

@[simp] theorem sendReply_port (type : Byte) (payload : Payload) (s : State) :
    (sendReply type payload s).link.port = .replying := rfl

@[simp] theorem sendReply_reply (type : Byte) (payload : Payload) (s : State) :
    (sendReply type payload s).link.reply = some ⟨type, payload⟩ := rfl

end Sys2Proof.Machine
end

