-- ==== Sys2Proof/Laws/Drive.lean ====
section
/-! SUPPORT. The drive streams: what a change of a press sends (R94), what the boards hold after it, and the start of a
sample at the weigh station (R126, R133). One lemma for each field, and one that says everything each operation can do. -/

namespace Sys2Proof.Machine

/-! ## A press after a change -/

@[simp] theorem Press.driven_state (b a : Press) : (b.driven a).state = a.state := rfl

@[simp] theorem Press.driven_prior (b a : Press) : (b.driven a).prior = a.prior := rfl

@[simp] theorem Press.driven_heatMode (b a : Press) : (b.driven a).heatMode = a.heatMode := rfl

@[simp] theorem Press.driven_config (b a : Press) : (b.driven a).config = a.config := rfl

@[simp] theorem Press.driven_bound (b a : Press) : (b.driven a).bound = a.bound := rfl

@[simp] theorem Press.driven_pendingBinding (b a : Press) : (b.driven a).pendingBinding = a.pendingBinding := rfl

@[simp] theorem Press.driven_readyRun (b a : Press) : (b.driven a).readyRun = a.readyRun := rfl

@[simp] theorem Press.driven_timers (b a : Press) : (b.driven a).timers = a.timers := rfl

@[simp] theorem Press.driven_hostHeat (b a : Press) : (b.driven a).hostHeat = a.hostHeat := rfl

@[simp] theorem Press.driven_hostMotion (b a : Press) : (b.driven a).hostMotion = a.hostMotion := rfl

@[simp] theorem Press.driven_autoLoad (b a : Press) : (b.driven a).autoLoad = a.autoLoad := rfl

@[simp] theorem Press.driven_autoOrder (b a : Press) : (b.driven a).autoOrder = a.autoOrder := rfl

@[simp] theorem Press.driven_historyFull (b a : Press) : (b.driven a).historyFull = a.historyFull := rfl

@[simp] theorem Press.driven_inputs (b a : Press) : (b.driven a).inputs = a.inputs := rfl

@[simp] theorem Press.driven_faults (b a : Press) : (b.driven a).faults = a.faults := rfl

@[simp] theorem Press.driven_zones (b a : Press) : (b.driven a).zones = a.zones := rfl

@[simp] theorem Press.driven_streamPos (b a : Press) : (b.driven a).streamPos = a.streamPos := rfl

@[simp] theorem Press.driven_overdue (b a : Press) : (b.driven a).overdue = a.overdue := rfl

@[simp] theorem Press.driven_run (b a : Press) : (b.driven a).run = a.run := rfl

@[simp] theorem Press.driven_nextTick (b a : Press) : (b.driven a).nextTick = a.nextTick := rfl

@[simp] theorem Press.driven_feedClass (b a : Press) : (b.driven a).feedClass = a.feedClass := rfl

@[simp] theorem Press.driven_shortfall (b a : Press) : (b.driven a).shortfall = a.shortfall := rfl

@[simp] theorem Press.driven_cure (b a : Press) : (b.driven a).cure = a.cure := rfl

@[simp] theorem Press.driven_eject (b a : Press) : (b.driven a).eject = a.eject := rfl

@[simp] theorem Press.driven_staging (b a : Press) : (b.driven a).staging = a.staging := rfl

theorem Press.driven_drive (b a : Press) : (b.driven a).drive = a.drive ++ driveTransfer b a := rfl

@[simp] theorem Press.driven_driveDuty (b a : Press) (z : Zone) : (b.driven a).driveDuty z = a.driveDuty z := rfl

@[simp] theorem Press.driven_driveDuties (b a : Press) : (b.driven a).driveDuties = a.driveDuties := rfl

@[simp] theorem Press.mem_driveDuties (pr : Press) (i d : Nat) :
    (i, d) ∈ pr.driveDuties ↔ ∃ z, pr.zones[i]? = some z ∧ pr.driveDuty z = d := by
  simp only [Press.driveDuties, List.mem_mapIdx, List.getElem?_eq_some_iff, Prod.mk.injEq]
  constructor
  · rintro ⟨j, hj, rfl, rfl⟩; exact ⟨_, ⟨hj, rfl⟩, rfl⟩
  · rintro ⟨z, ⟨hj, rfl⟩, rfl⟩; exact ⟨i, hj, rfl, rfl⟩

/-- A change that leaves every drive duty sends nothing (R94). -/
theorem driveTransfer_same {b a : Press} (h : ∀ e ∈ a.driveDuties, e ∈ b.driveDuties) : driveTransfer b a = [] := by
  simp only [driveTransfer]
  rw [if_pos]
  simpa using h

theorem Press.driven_same {b a : Press} (h : ∀ e ∈ a.driveDuties, e ∈ b.driveDuties) : b.driven a = a := by
  simp [Press.driven, driveTransfer_same h]

/-- Everything that a change can send (R94): nothing, with no drive duty changed; or one transfer, of drive duties of the
press as it now stands, every changed one among them. -/
theorem driveTransfer_cases (b a : Press) :
    (driveTransfer b a = [] ∧ ∀ e ∈ a.driveDuties, e ∈ b.driveDuties) ∨
    ∃ es, driveTransfer b a = [.duties es] ∧ (∀ e ∈ es, e ∈ a.driveDuties) ∧
      ∀ e ∈ a.driveDuties, e ∉ b.driveDuties → e ∈ es := by
  by_cases h : ∀ e ∈ a.driveDuties, e ∈ b.driveDuties
  · exact .inl ⟨driveTransfer_same h, h⟩
  · refine .inr ⟨if b.heatCut == a.heatCut then a.driveDuties.filter fun e => !b.driveDuties.contains e else a.driveDuties,
      ?_, ?_, ?_⟩
    · simp only [driveTransfer]
      rw [if_neg]
      simpa using h
    · intro e; split
      · simp; tauto
      · simp
    · intro e h1 h2; split <;> simp [h1, h2]

/-! ## The boards -/

@[simp] theorem heldDuty_nil (i : Nat) : heldDuty [] i = 0 := rfl

@[simp] theorem heldDuty_duties (items : List DriveItem) (es : List (Nat × Nat)) (i : Nat) :
    heldDuty (items ++ [.duties es]) i = ((es.find? fun e => e.1 == i).map fun e => e.2).getD (heldDuty items i) := by
  simp [heldDuty]

@[simp] theorem heldDuty_reference (items : List DriveItem) (c : RefCommand) (i : Nat) :
    heldDuty (items ++ [.reference c]) i = heldDuty items i := by
  simp [heldDuty]

/-- A transfer of drive duties of a press brings each board it names to its zone's duty. -/
theorem find_of_driveDuties {pr : Press} {es : List (Nat × Nat)} (h : ∀ e ∈ es, e ∈ pr.driveDuties) (i d : Nat) :
    ((es.find? fun e => e.1 == i).map fun e => e.2) = some d → ∃ z, pr.zones[i]? = some z ∧ pr.driveDuty z = d := by
  intro hf
  cases he : es.find? fun e => e.1 == i with
  | none => simp [he] at hf
  | some e =>
    have hi : e.1 = i := by simpa using List.find?_some he
    have := h e (List.mem_of_find?_eq_some he)
    obtain ⟨j, k⟩ := e
    subst hi
    simp only [he, Option.map_some, Option.some.injEq] at hf
    subst hf
    simpa using this

/-- The boards follow a press through any change that keeps its zones in number and sends what `driven` sends. -/
theorem Press.BoardsFollow.driven {b a : Press} (h : b.BoardsFollow) (hd : a.drive = b.drive)
    (hl : a.zones.length = b.zones.length) : (b.driven a).BoardsFollow := by
  refine ⟨by simpa [hl] using h.1, fun i => ?_⟩
  have hb := h.2 i
  rw [Press.driven_drive, hd]
  rcases driveTransfer_cases b a with ⟨ht, hsame⟩ | ⟨es, ht, hes, hall⟩
  · rw [ht, List.append_nil, hb]
    cases ha : a.zones[i]? with
    | none =>
      have : b.zones[i]? = none := by simp only [List.getElem?_eq_none_iff] at ha ⊢; omega
      simp [this, ha]
    | some z =>
      obtain ⟨y, hy, hd'⟩ := (Press.mem_driveDuties b i _).1 (hsame (i, a.driveDuty z) (by simp [ha]))
      simp [ha, hy, hd']
  · rw [ht, heldDuty_duties]
    cases hf : (es.find? fun e => e.1 == i).map fun e => e.2 with
    | some d =>
      obtain ⟨z, hz, rfl⟩ := find_of_driveDuties hes i d hf
      simp [hz]
    | none =>
      simp only [Option.getD_none, hb, Press.driven_zones]
      have hnot : ∀ d, (i, d) ∉ es := by
        intro d hm
        have hn : es.find? (fun e => e.1 == i) = none := by simpa using hf
        have := List.find?_eq_none.1 hn _ hm
        simp at this
      cases ha : a.zones[i]? with
      | none =>
        have : b.zones[i]? = none := by simp only [List.getElem?_eq_none_iff] at ha ⊢; omega
        simp [this]
      | some z =>
        have hin : (i, a.driveDuty z) ∈ b.driveDuties := by
          by_contra hc
          exact hnot _ (hall _ (by simp [ha]) hc)
        obtain ⟨y, hy, hd'⟩ := (Press.mem_driveDuties b i _).1 hin
        simp [hy, hd']

/-- A press after a power-on or a RESET pin reset has its boards at 0. -/
theorem Press.initial_boardsFollow (inputs : Inputs) : (Press.initial inputs).BoardsFollow := by
  refine ⟨by simp [Press.initial], fun i => ?_⟩
  rw [show (Press.initial inputs).drive = [] ++ [DriveItem.duties ((List.range 24).map fun i => (i, 0))] from rfl, heldDuty_duties]
  cases hf : ((List.range 24).map fun i => (i, 0)).find? fun e => e.1 == i with
  | none => simp [Press.initial]
  | some e =>
    have := List.mem_of_find?_eq_some hf
    simp only [List.mem_map] at this
    obtain ⟨j, -, rfl⟩ := this
    simp [Press.initial]

/-! ## A reference level commanded -/

@[simp] theorem commandLevel_press (p : PressId) (c : RefCommand) (s : State) : (commandLevel p c s).press p
    = { s.press p with run := { (s.press p).run with command := some c }, drive := (s.press p).drive ++ [.reference c] } := by
  simp [commandLevel]

/-- Everything that the scan of a run can do (R74). -/
theorem runScan_cases (p : PressId) (b : Bool) (level : Nat → Nat) (s : State) :
    runScan p b level s = s ∨ ∃ x, (s.press p).run.params = some x ∧ (s.press p).run.state = .running ∧
      runScan p b level s = commandLevel p (x.command (level (s.press p).run.index)) (s.updRun p fun r => { r with inScan := b }) := by
  unfold runScan
  split
  · split
    · exact .inr ⟨_, ‹_›, ‹_›, rfl⟩
    · exact .inl rfl
  · exact .inl rfl

/-! ## The active STOP faults changed -/

@[simp] theorem updActive_faults (s : State) (o : Owner) (f : OwnerFaults → OwnerFaults) :
    (s.updActive o f).ownerFaults o = f (s.ownerFaults o) := by
  cases o <;> simp [State.updActive, State.ownerFaults]

/-! ## A sample begun -/

@[simp] theorem Weigh.beginSample_sampleTimer (k : Nat) (w : Weigh) : (w.beginSample k).sampleTimer = k := rfl

@[simp] theorem Weigh.beginSample_used (k : Nat) (w : Weigh) : (w.beginSample k).used = w.params := rfl

@[simp] theorem Weigh.beginSample_copy (k : Nat) (w : Weigh) : (w.beginSample k).copy = w.copy := rfl

@[simp] theorem Weigh.beginSample_rows (k : Nat) (w : Weigh) : (w.beginSample k).rows = w.rows := rfl

@[simp] theorem Weigh.beginSample_writing (k : Nat) (w : Weigh) : (w.beginSample k).writing = w.writing := rfl

@[simp] theorem Weigh.beginSample_rawWindow (k : Nat) (w : Weigh) : (w.beginSample k).rawWindow = w.rawWindow := rfl

@[simp] theorem Weigh.beginSample_massWindow (k : Nat) (w : Weigh) : (w.beginSample k).massWindow = w.massWindow := rfl

@[simp] theorem Weigh.beginSample_averages (k : Nat) (w : Weigh) : (w.beginSample k).averages = w.averages := rfl

@[simp] theorem Weigh.beginSample_errors (k : Nat) (w : Weigh) : (w.beginSample k).errors = w.errors := rfl

@[simp] theorem Weigh.beginSample_state (k : Nat) (w : Weigh) : (w.beginSample k).state = w.state := rfl

@[simp] theorem Weigh.beginSample_params (k : Nat) (w : Weigh) : (w.beginSample k).params = w.params := rfl

@[simp] theorem Weigh.beginSample_filter (k : Nat) (w : Weigh) : (w.beginSample k).filter = w.filter := rfl

@[simp] theorem Weigh.beginSample_tray (k : Nat) (w : Weigh) : (w.beginSample k).tray = w.tray := rfl

@[simp] theorem Weigh.beginSample_nextCharge (k : Nat) (w : Weigh) : (w.beginSample k).nextCharge = w.nextCharge := rfl

@[simp] theorem Weigh.beginSample_build (k : Nat) (w : Weigh) : (w.beginSample k).build = w.build := rfl

end Sys2Proof.Machine
end

