-- ==== Sys2Proof/Laws/Frames.lean ====
section
/-! SUPPORT. What the shared operations leave alone: the waiting commands, the free choices, cell time, the port, the
restart record, the recipes, the press filter time and the feed allocator. One lemma for each operation. -/

namespace Sys2Proof.Machine

/-- The fields that no operation on presses, charges, records or faults touches. -/
def State.fixed (s : State) : List Instr × Nat × Time × Link × Option RestartRecord × RecipeStore × Nat × Feed :=
  (s.pending, s.choice, s.time, s.link, s.restart, s.recipes, s.pressFilter, s.feed)

theorem foldl_fixed {α : Type} (f : State → α → State) (h : ∀ t a, (f t a).fixed = t.fixed) (l : List α) (s : State) :
    (l.foldl f s).fixed = s.fixed := by
  induction l generalizing s with
  | nil => rfl
  | cons a l ih => rw [List.foldl_cons, ih, h]

@[simp] theorem updPress_fixed (s : State) (p : PressId) (f : Press → Press) : (s.updPress p f).fixed = s.fixed := rfl

@[simp] theorem updOpen_fixed (p : PressId) (f : PartRecord → PartRecord) (s : State) : (updOpen p f s).fixed = s.fixed := rfl

@[simp] theorem dropBuild_fixed (st : StationState) (s : State) : (dropBuild st s).fixed = s.fixed := rfl

@[simp] theorem setWeigh_fixed (s : State) (f : Weigh → Weigh) : (s.setWeigh f).fixed = s.fixed := rfl

@[simp] theorem setRecords_fixed (s : State) (f : List PartRecord → List PartRecord) : (s.setRecords f).fixed = s.fixed := rfl

@[simp] theorem updEject_fixed (s : State) (p : PressId) (f : Eject → Eject) : (s.updEject p f).fixed = s.fixed := rfl

@[simp] theorem updRun_fixed (s : State) (p : PressId) (f : ProvingRun → ProvingRun) : (s.updRun p f).fixed = s.fixed := rfl

@[simp] theorem queueEvent_fixed (k : EventKind) (pr : Option PressId) (d : Detail) (n : Option Nat) (s : State) :
    (queueEvent k pr d n s).fixed = s.fixed := by
  simp [State.fixed]

@[simp] theorem queuePressState_fixed (p : PressId) (s : State) : (queuePressState p s).fixed = s.fixed := by
  simp [queuePressState]

@[simp] theorem syncCure_fixed (p : PressId) (s : State) : (syncCure p s).fixed = s.fixed := rfl

@[simp] theorem syncEject_fixed (p : PressId) (s : State) : (syncEject p s).fixed = s.fixed := rfl

@[simp] theorem finishSummaries_fixed (p : PressId) (s : State) : (finishSummaries p s).fixed = s.fixed := rfl

@[simp] theorem noteOpenCmd_fixed (p : PressId) (s : State) : (noteOpenCmd p s).fixed = s.fixed := by
  unfold noteOpenCmd; split <;> simp

@[simp] theorem closeRecords_fixed (p : PressId) (aborted : Bool) (s : State) : (closeRecords p aborted s).fixed = s.fixed := by
  unfold closeRecords
  rw [foldl_fixed _ (fun t r => by simp)]
  simp

@[simp] theorem enter_fixed (p : PressId) (st : PressState) (tm : Timers) (s : State) : (enter p st tm s).fixed = s.fixed := by
  simp [enter]

@[simp] theorem stopPress_fixed (p : PressId) (s : State) : (stopPress p s).fixed = s.fixed := by
  unfold stopPress; split <;> simp

@[simp] theorem updOwnerFaults_fixed (s : State) (o : Owner) (f : OwnerFaults → OwnerFaults) :
    (s.updOwnerFaults o f).fixed = s.fixed := by
  cases o <;> rfl

@[simp] theorem updActive_fixed (s : State) (o : Owner) (f : OwnerFaults → OwnerFaults) :
    (s.updActive o f).fixed = s.fixed := by
  cases o <;> rfl

@[simp] theorem raiseFault_fixed (o : Owner) (c : FaultCode) (q : Qualifier) (s : State) :
    (raiseFault o c q s).fixed = s.fixed := by
  cases o <;> simp only [raiseFault] <;> split_ifs <;> simp

@[simp] theorem startBuild_fixed (s : State) : (startBuild s).fixed = s.fixed := by
  unfold startBuild; split <;> [rfl; split <;> rfl]

@[simp] theorem appendOrder_fixed (p : PressId) (c : Cavity) (s : State) : (appendOrder p c s).fixed = s.fixed := by
  unfold appendOrder; split <;> [rfl; (rw [startBuild_fixed]; rfl)]

@[simp] theorem autoOrder_fixed (p : PressId) (c : Cavity) (s : State) : (autoOrder p c s).fixed = s.fixed := by
  unfold autoOrder; split <;> simp

@[simp] theorem removeOrders_fixed (drop : Order → Bool) (s : State) : (removeOrders drop s).fixed = s.fixed := by
  simp only [removeOrders, startBuild_fixed]; split <;> rfl

@[simp] theorem scrub_fixed (p : PressId) (keep : RecipeRef → Bool) (s : State) : (scrub p keep s).fixed = s.fixed := by
  simp only [scrub]
  rw [foldl_fixed _ (fun t c => by simp), removeOrders_fixed, foldl_fixed _ (fun t c => by simp), updPress_fixed]

@[simp] theorem heatOff_fixed (p : PressId) (s : State) : (heatOff p s).fixed = s.fixed := rfl

@[simp] theorem heatStandby_fixed (p : PressId) (s : State) : (heatStandby p s).fixed = s.fixed := rfl

@[simp] theorem heatRun_fixed (p : PressId) (s : State) : (heatRun p s).fixed = s.fixed := rfl

@[simp] theorem applyBinding_fixed (p : PressId) (ref : RecipeRef) (s : State) : (applyBinding p ref s).fixed = s.fixed := by
  simp only [applyBinding]; split <;> simp

@[simp] theorem bindingPoint_fixed (p : PressId) (s : State) : (bindingPoint p s).fixed = s.fixed := by
  unfold bindingPoint; split <;> simp

@[simp] theorem beginCure_fixed (p : PressId) (s : State) : (beginCure p s).fixed = s.fixed := rfl

@[simp] theorem endCure_fixed (p : PressId) (s : State) : (endCure p s).fixed = s.fixed := rfl

@[simp] theorem enterCuring_fixed (p : PressId) (s : State) : (enterCuring p s).fixed = s.fixed := by
  simp [enterCuring]

@[simp] theorem enterClosing_fixed (p : PressId) (s : State) : (enterClosing p s).fixed = s.fixed := by
  simp only [enterClosing]; split <;> simp

@[simp] theorem enterLoading_fixed (p : PressId) (s : State) : (enterLoading p s).fixed = s.fixed := by
  simp only [enterLoading]; split <;> simp

@[simp] theorem reserveRecord_fixed (p : PressId) (c : Cavity) (s : State) : (reserveRecord p c s).fixed = s.fixed := by
  unfold reserveRecord; split <;> rfl

@[simp] theorem takeCharge_fixed (p : PressId) (c : Cavity) (s : State) : (takeCharge p c s).fixed = s.fixed := by
  unfold takeCharge; split <;> simp

@[simp] theorem takeLoad_fixed (p : PressId) (s : State) : (takeLoad p s).fixed = s.fixed := by
  simp only [takeLoad, enterLoading_fixed, updPress_fixed]
  rw [foldl_fixed _ (fun t c => by simp), foldl_fixed _ (fun t c => by simp), foldl_fixed _ (fun t c => by simp)]

/-- Everything that a re-examination of auto-load can do (R33): nothing, or, once the history-full flag is cleared where
there is room, a LOAD of the press's own, nothing more, or one HISTORY_FULL. -/
theorem examineAutoLoad_cases (p : PressId) (s : State) :
    examineAutoLoad p s = s ∨
    ((s.press p).autoLoad = true ∧
      ∃ s1, (s1 = s ∨ s1 = s.updPress p fun pr => { pr with historyFull := false }) ∧
        ((loadRefusal p s1 = none ∧ examineAutoLoad p s = takeLoad p s1) ∨
          (loadRefusal p s1 ≠ none ∧ examineAutoLoad p s = s1) ∨
          (loadRefusal p s1 = some .full ∧ examineAutoLoad p s
            = queueEvent .historyFull (some p) .none none (s1.updPress p fun pr => { pr with historyFull := true })))) := by
  by_cases h : (s.press p).autoLoad = true
  · refine .inr ⟨h, if (!(s.cavities p).isEmpty && (s.cavities p).length ≤ s.history.free) then
      s.updPress p fun pr => { pr with historyFull := false } else s, by split <;> simp, ?_⟩
    rw [examineAutoLoad, if_pos h]
    dsimp only
    generalize (if (!(s.cavities p).isEmpty && decide ((s.cavities p).length ≤ s.history.free)) = true then
      s.updPress p fun pr => { pr with historyFull := false } else s) = s1
    split
    · exact .inl ⟨‹_›, rfl⟩
    · split
      · exact .inr (.inl ⟨by simp [*], rfl⟩)
      · exact .inr (.inr ⟨‹_›, rfl⟩)
    · exact .inr (.inl ⟨by simp [*], rfl⟩)
  · exact .inl (by rw [examineAutoLoad, if_neg h])

@[simp] theorem examineAutoLoad_fixed (p : PressId) (s : State) : (examineAutoLoad p s).fixed = s.fixed := by
  rcases examineAutoLoad_cases p s with h | ⟨-, s1, h1, h⟩
  · rw [h]
  · have hs : s1.fixed = s.fixed := by rcases h1 with rfl | rfl <;> simp
    rcases h with ⟨-, h⟩ | ⟨-, h⟩ | ⟨-, h⟩ <;> simp [h, hs]

@[simp] theorem enterPreheat_fixed (p : PressId) (s : State) : (enterPreheat p s).fixed = s.fixed := by
  simp [enterPreheat]

@[simp] theorem enterReady_fixed (p : PressId) (s : State) : (enterReady p s).fixed = s.fixed := by
  simp only [enterReady]; split <;> simp

@[simp] theorem bandTest_fixed (p : PressId) (s : State) : (bandTest p s).fixed = s.fixed := by
  unfold bandTest; split <;> [(split <;> simp); (split <;> simp); rfl]

@[simp] theorem finishClearing_fixed (p : PressId) (s : State) : (finishClearing p s).fixed = s.fixed := by
  simp only [finishClearing]; split <;> [skip; split] <;> simp

@[simp] theorem enterClearing_fixed (p : PressId) (s : State) : (enterClearing p s).fixed = s.fixed := by
  simp only [enterClearing]; split <;> simp

@[simp] theorem endTest_fixed (p : PressId) (s : State) : (endTest p s).fixed = s.fixed := by
  simp only [endTest]; split <;> simp

@[simp] theorem startCavities_fixed (p : PressId) (r : Recipe) (cs : List Cavity) (s : State) :
    (startCavities p r cs s).fixed = s.fixed := by
  unfold startCavities
  exact foldl_fixed _ (fun t c => by split <;> simp) cs s

@[simp] theorem enterEjecting_fixed (p : PressId) (s : State) : (enterEjecting p s).fixed = s.fixed := by
  simp only [enterEjecting]; split <;> simp

@[simp] theorem resumeEjecting_fixed (p : PressId) (s : State) : (resumeEjecting p s).fixed = s.fixed := by
  simp only [resumeEjecting]
  split
  · simp
  · simp only [endTest_fixed, syncEject_fixed, startCavities_fixed]
    rw [foldl_fixed _ (fun t c => by simp), enter_fixed]

@[simp] theorem enterOpening_fixed (p : PressId) (s : State) : (enterOpening p s).fixed = s.fixed := by
  simp only [enterOpening]; split <;> simp

@[simp] theorem abortingToIdle_fixed (p : PressId) (s : State) : (abortingToIdle p s).fixed = s.fixed := by
  simp [abortingToIdle]

@[simp] theorem enterAborting_fixed (p : PressId) (s : State) : (enterAborting p s).fixed = s.fixed := by
  simp only [enterAborting]; split <;> simp

@[simp] theorem setSensor_fixed (p : PressId) (k : SensorPos) (f : Sensor → Sensor) (s : State) :
    (setSensor p k f s).fixed = s.fixed := rfl

@[simp] theorem degradeZone_fixed (p : PressId) (i : Nat) (s : State) : (degradeZone p i s).fixed = s.fixed := by
  unfold degradeZone
  split
  · rw [syncCure_fixed, foldl_fixed _ (fun t c => by dsimp only; split <;> simp)]
  · rfl

@[simp] theorem zoneUpdate_fixed (p : PressId) (i : Nat) (s : State) : (zoneUpdate p i s).fixed = s.fixed := by
  simp [zoneUpdate]

@[simp] theorem scanZoneUpdate_fixed (p : PressId) (i : Nat) (s : State) : (scanZoneUpdate p i s).fixed = s.fixed := by
  unfold scanZoneUpdate; split <;> simp; split <;> simp

@[simp] theorem judgeReading_fixed (p : PressId) (k : SensorPos) (r : Reading) (s : State) :
    (judgeReading p k r s).fixed = s.fixed := by
  simp only [judgeReading]; split <;> [skip; split] <;> simp

@[simp] theorem commandLevel_fixed (p : PressId) (c : RefCommand) (s : State) : (commandLevel p c s).fixed = s.fixed := rfl

@[simp] theorem runScan_fixed (p : PressId) (b : Bool) (level : Nat → Nat) (s : State) : (runScan p b level s).fixed = s.fixed := by
  unfold runScan; split <;> [(split <;> rfl); rfl]

@[simp] theorem updateChanged_fixed (p : PressId) (b s : State) : (updateChanged p b s).fixed = s.fixed := by
  unfold updateChanged
  exact foldl_fixed _ (fun t i => by simp) _ s

@[simp] theorem closeRun_fixed (p : PressId) (st : RunState) (failed : List SensorPos) (s : State) :
    (closeRun p st failed s).fixed = s.fixed := by
  simp only [closeRun, updateChanged_fixed, updRun_fixed]
  exact foldl_fixed _ (fun t k => by simp) _ s

@[simp] theorem endRun_fixed (p : PressId) (st : RunState) (s : State) : (endRun p st s).fixed = s.fixed := by
  simp only [endRun, examineAutoLoad_fixed, queueEvent_fixed]; split <;> simp

@[simp] theorem abortRun_fixed (p : PressId) (s : State) : (abortRun p s).fixed = s.fixed := by
  unfold abortRun; split <;> simp

@[simp] theorem compareReading_fixed (p : PressId) (k : SensorPos) (r : Reading) (s : State) :
    (compareReading p k r s).fixed = s.fixed := by
  simp only [compareReading]; split <;> [rfl; split <;> [(split <;> simp); rfl]]

@[simp] theorem handleReading_fixed (o : Bool) (p : PressId) (k : SensorPos) (r : Reading) (s : State) :
    (handleReading o p k r s).fixed = s.fixed := by
  unfold handleReading
  split
  · rfl
  · split <;> [simp; simp; (split <;> simp); rfl; rfl]

@[simp] theorem stepPosition_fixed (o : Bool) (p : PressId) (n : Nat) (r : Reading) (s : State) :
    (stepPosition o p n r s).fixed = s.fixed := by
  simp only [stepPosition]; split <;> simp

@[simp] theorem closeScan_fixed (p : PressId) (s : State) : (closeScan p s).fixed = s.fixed := by
  simp only [closeScan]; split <;> [simp; (split_ifs <;> simp)]

@[simp] theorem overheatTest_fixed (p : PressId) (i : Nat) (s : State) : (overheatTest p i s).fixed = s.fixed := by
  unfold overheatTest; split <;> [(split <;> simp); rfl]

@[simp] theorem expireHold_fixed (p : PressId) (i : Nat) (s : State) : (expireHold p i s).fixed = s.fixed := by
  simp [expireHold]

@[simp] theorem zoneTick_fixed (p : PressId) (b : Bool) (s : State) (i : Nat) : (zoneTick p b s i).fixed = s.fixed := by
  simp only [zoneTick]
  split
  · split
    · simp
    · split
      · simp
      · split
        · unfold blindTick; split <;> [(split <;> simp); simp; simp]
        · unfold valueTick; split <;> [simp; (dsimp only; split <;> simp)]
  · simp

@[simp] theorem controlTick_fixed (p : PressId) (s : State) : (controlTick p s).fixed = s.fixed := by
  simp only [controlTick]
  rw [foldl_fixed _ (fun t i => by simp)]
  rfl

@[simp] theorem enterIdle_fixed (s : State) : (enterIdle s).fixed = s.fixed := by
  simp [enterIdle]

@[simp] theorem countFailure_fixed (b : Build) (s : State) : (countFailure b s).fixed = s.fixed := by
  simp only [countFailure]; split <;> [(rw [queueEvent_fixed]; rfl); rfl]

@[simp] theorem failAttempt_fixed (st : StationState) (b : Build) (s : State) : (failAttempt st b s).fixed = s.fixed := by
  simp [failAttempt]

@[simp] theorem makeCharge_fixed (b : Build) (s : State) : (makeCharge b s).fixed = s.fixed := by
  simp only [makeCharge, examineAutoLoad_fixed, dropBuild_fixed, setWeigh_fixed, queueEvent_fixed]; rfl

@[simp] theorem totalCheck_fixed (b : Build) (k : CavityCharge) (s : State) : (totalCheck b k s).fixed = s.fixed := by
  simp only [totalCheck]; split <;> simp

@[simp] theorem setBuild_fixed (st : StationState) (b : Build) (s : State) : (setBuild st b s).fixed = s.fixed := rfl

@[simp] theorem actOnAverage_fixed (s : State) : (actOnAverage s).fixed = s.fixed := by
  unfold actOnAverage
  split <;> try rfl
  split <;> try rfl
  split <;> try rfl
  split
  · unfold tareSettle; split <;> simp
  · split <;> simp
  · unfold plySettle
    dsimp only
    split
    · simp
    · split
      · simp only [acceptPly]; split <;> simp
      · simp only [rejectPly]; split <;> simp
  · split <;> simp
  · rfl

@[simp] theorem scaleSample_fixed (x : ScaleSample) (s : State) : (scaleSample x s).fixed = s.fixed := by
  have herr : ∀ t : State, (errSample t).fixed = t.fixed := by
    intro t
    simp only [errSample]; split <;> simp [loseScale]
  have hgood : ∀ (n : Int) (t : State), (goodSample n t).fixed = t.fixed := by
    intro n t
    have hl : (leaveFaulted t).fixed = t.fixed := by
      unfold leaveFaulted; split <;> [(split <;> simp); rfl]
    simp only [goodSample, testSample]
    split
    · split <;> simp [hl]
    · simp [hl]
  cases x <;> simp [scaleSample, herr, hgood]

@[simp] theorem acceptInput_fixed (p : PressId) (k : PressInput) (s : State) : (acceptInput p k s).fixed = s.fixed := by
  have hfree : ∀ (c : Cavity) (t : State), (partFreed p c t).fixed = t.fixed := by
    intro c t
    unfold partFreed; split <;> [rfl; (split <;> simp)]
  simp only [acceptInput]
  split
  · cases k <;> simp only [inputAsserted]
    · simp
    · simp
    · split <;> simp
    · unfold openSeen; split <;> simp
    · split <;> simp
    · split <;> simp
    · simp [hfree]
    · simp [hfree]
  · cases k <;> simp only [inputDeasserted] <;> [(unfold guardLost; split <;> simp); simp; simp; simp; simp; simp; simp; simp]

@[simp] theorem trayAccept_fixed (s : State) : (trayAccept s).fixed = s.fixed := by
  simp only [trayAccept]
  split
  · simp
  · split <;> [simp; (split <;> simp); simp]

/-- With no run in progress no reading is compared with a level (R75). -/
theorem compareReading_no_run (p : PressId) (k : SensorPos) (r : Reading) (s : State) (h : (s.press p).run.state ≠ .running) :
    compareReading p k r s = s := by
  simp only [compareReading, h, false_and, if_false]
  cases (s.press p).run.params <;> rfl

/-- A raw change under a filter time of 0 is an acceptance of the changed level (R22). -/
theorem execPressInputRawChange_atOnce (p : PressId) (k : PressInput) (level : Bool) (s : State) (h : s.pressFilter = 0) :
    execPressInputRawChange p k level s = execPressInputAccepted p k
      (s.updPress p fun pr => { pr with inputs := pr.inputs.upd k (Filtered.change level) }) := by
  simp [execPressInputRawChange, execPressInputAccepted, h]

/-- A reading that nothing takes: the position is unfitted or discarded, or its sensor is FAILED (R58, R62, R77). -/
theorem handleReading_untaken (o : Bool) (p : PressId) (k : SensorPos) (r : Reading) (s : State)
    (h : (s.press p).fittedAt k = false ∨ ((s.press p).sensorAt k).state = .failed ∨ ∃ d ∈ (s.press p).run.discard, d.1 = k) :
    handleReading o p k r s = s := by
  unfold handleReading
  split
  · rfl
  · rename_i hk
    rcases h with h | h | ⟨d, hd, rfl⟩
    · simp [h] at hk
    · simp [h]
    · simp_all

/-- What an update of the OPEN records of a press makes of the record at a place of the log. -/
theorem updOpen_record (p : PressId) (f : PartRecord → PartRecord) (s : State) (i : Nat) :
    (updOpen p f s).history.records[i]? = (s.history.records[i]?).map fun r => if r.openFor p then f r else r := by
  simp [updOpen]

/-- All that the band test can do: a ready run in PREHEAT starts, goes on or is cancelled, READY with a zone out of band goes to
PREHEAT, and nothing else (R29, R30). -/
theorem bandTest_cases (p : PressId) (s : State) :
    ((s.press p).state = .preheat ∧ bandTest p s = s.updPress p fun pr =>
      { pr with readyRun := if s.allInBand p then some (pr.readyRun.getD 0) else none }) ∨
    ((s.press p).state = .ready ∧ s.allInBand p = false ∧ bandTest p s = enterPreheat p s) ∨
    ((s.press p).state ≠ .preheat ∧ ((s.press p).state = .ready → s.allInBand p = true) ∧ bandTest p s = s) := by
  unfold bandTest
  split
  · rename_i h
    refine .inl ⟨h, ?_⟩
    split <;> simp_all
  · rename_i h
    split
    · rename_i hb
      exact .inr (.inr ⟨by simp [h], fun _ => hb, rfl⟩)
    · rename_i hb
      exact .inr (.inl ⟨h, by simpa using hb, rfl⟩)
  · rename_i h1 h2
    exact .inr (.inr ⟨h1, fun h => absurd h h2, rfl⟩)

/-- A zone with a source, or one that is proving-blind, holds no blind hold after a change of its sensors (R92). -/
theorem settleHold_stopped (z : Zone) (h : z.isBlind = false ∨ z.provingBlind = true) : z.settleHold.hold = .stopped := by
  rcases h with h | h <;> simp [Zone.settleHold, h]

end Sys2Proof.Machine
end

