-- ==== Sys2Proof/Laws/PerInstr.lean ====
section
/-! SUPPORT. One law for every command: a well-formed command that a frame carries is the command of its type code and
payload, and its payload fits a frame (R196, R197, R199). -/

namespace Sys2Proof.Laws.TypeCode

/-- The type code and payload of a command name that command and no other. -/
def Statement (i : Instr) : Prop :=
  i.wf = true → ∀ t p, frameOf i = some (t, p) → commandOf t p = i ∧ p.length ≤ 248

/-- A command that no frame carries. -/
theorem of_none {i : Instr} (h : frameOf i = none) : Statement i := by
  intro _ t p hf
  rw [h] at hf
  cases hf

/-- A request whose frame has the type code `c`. -/
theorem of_request {i : Instr} {c : Byte} {payload : Payload} (hf : frameOf i = some (c, payload))
    (hr : requestOf c payload = some i) (hw : i.wf = payloadFits payload) : Statement i := by
  intro h t p e
  rw [hf] at e
  cases e
  rw [hw] at h
  exact ⟨by rw [commandOf, hr]; rfl, by simpa [payloadFits] using h⟩

theorem powerOn (adr : BitVec 5) (rate : BitVec 2) : Statement (.powerOn adr rate) := of_none rfl

theorem resetPin (adr : BitVec 5) (rate : BitVec 2) : Statement (.resetPin adr rate) := of_none rfl

theorem frameDiscarded (items : List LineItem) : Statement (.frameDiscarded items) := of_none rfl

theorem unknownRequestType (type : Byte) (payload : Payload) : Statement (.unknownRequestType type payload) := by
  intro h t p e
  cases e
  simp only [Instr.wf, Bool.and_eq_true, Option.isNone_iff_eq_none] at h
  exact ⟨by rw [commandOf, h.2]; rfl, by simpa [payloadFits] using h.1⟩

theorem replyComplete : Statement .replyComplete := of_none rfl

theorem identify (payload : Payload) : Statement (.identify payload) := of_request rfl rfl rfl

theorem getStatus (payload : Payload) : Statement (.getStatus payload) := of_request rfl rfl rfl

theorem cellConfig (payload : Payload) : Statement (.cellConfig payload) := of_request rfl rfl rfl

theorem cellReset (payload : Payload) : Statement (.cellReset payload) := of_request rfl rfl rfl

theorem getRestart (payload : Payload) : Statement (.getRestart payload) := of_request rfl rfl rfl

theorem clearRestart (payload : Payload) : Statement (.clearRestart payload) := of_request rfl rfl rfl

theorem recipeBegin (payload : Payload) : Statement (.recipeBegin payload) := of_request rfl rfl rfl

theorem recipeSection (payload : Payload) : Statement (.recipeSection payload) := of_request rfl rfl rfl

theorem recipeAbandon (payload : Payload) : Statement (.recipeAbandon payload) := of_request rfl rfl rfl

theorem recipeDelete (payload : Payload) : Statement (.recipeDelete payload) := of_request rfl rfl rfl

theorem recipeList (payload : Payload) : Statement (.recipeList payload) := of_request rfl rfl rfl

theorem bindRecipe (payload : Payload) : Statement (.bindRecipe payload) := of_request rfl rfl rfl

theorem pressConfig (payload : Payload) : Statement (.pressConfig payload) := of_request rfl rfl rfl

theorem heatMode (payload : Payload) : Statement (.heatMode payload) := of_request rfl rfl rfl

theorem load (payload : Payload) : Statement (.load payload) := of_request rfl rfl rfl

theorem resume (payload : Payload) : Statement (.resume payload) := of_request rfl rfl rfl

theorem forceOpen (payload : Payload) : Statement (.forceOpen payload) := of_request rfl rfl rfl

theorem abort (payload : Payload) : Statement (.abort payload) := of_request rfl rfl rfl

theorem heatHold (payload : Payload) : Statement (.heatHold payload) := of_request rfl rfl rfl

theorem motionHold (payload : Payload) : Statement (.motionHold payload) := of_request rfl rfl rfl

theorem auto (payload : Payload) : Statement (.auto payload) := of_request rfl rfl rfl

theorem pressStatus (payload : Payload) : Statement (.pressStatus payload) := of_request rfl rfl rfl

theorem getMap (payload : Payload) : Statement (.getMap payload) := of_request rfl rfl rfl

theorem restoreSensor (payload : Payload) : Statement (.restoreSensor payload) := of_request rfl rfl rfl

theorem sensorStatus (payload : Payload) : Statement (.sensorStatus payload) := of_request rfl rfl rfl

theorem proveStart (payload : Payload) : Statement (.proveStart payload) := of_request rfl rfl rfl

theorem proveStop (payload : Payload) : Statement (.proveStop payload) := of_request rfl rfl rfl

theorem proveStatus (payload : Payload) : Statement (.proveStatus payload) := of_request rfl rfl rfl

theorem heatStatus (payload : Payload) : Statement (.heatStatus payload) := of_request rfl rfl rfl

theorem feedStatus (payload : Payload) : Statement (.feedStatus payload) := of_request rfl rfl rfl

theorem cureStatus (payload : Payload) : Statement (.cureStatus payload) := of_request rfl rfl rfl

theorem calZero (payload : Payload) : Statement (.calZero payload) := of_request rfl rfl rfl

theorem calSpan (payload : Payload) : Statement (.calSpan payload) := of_request rfl rfl rfl

theorem calSet (payload : Payload) : Statement (.calSet payload) := of_request rfl rfl rfl

theorem calCommit (payload : Payload) : Statement (.calCommit payload) := of_request rfl rfl rfl

theorem calRowWritten : Statement .calRowWritten := of_none rfl

theorem weighStatus (payload : Payload) : Statement (.weighStatus payload) := of_request rfl rfl rfl

theorem chargeOrder (payload : Payload) : Statement (.chargeOrder payload) := of_request rfl rfl rfl

theorem cancelOrder (payload : Payload) : Statement (.cancelOrder payload) := of_request rfl rfl rfl

theorem getStaging (payload : Payload) : Statement (.getStaging payload) := of_request rfl rfl rfl

theorem ejectStatus (payload : Payload) : Statement (.ejectStatus payload) := of_request rfl rfl rfl

theorem historyList (payload : Payload) : Statement (.historyList payload) := of_request rfl rfl rfl

theorem historyRead (payload : Payload) : Statement (.historyRead payload) := of_request rfl rfl rfl

theorem historyNext (payload : Payload) : Statement (.historyNext payload) := of_request rfl rfl rfl

theorem historyRelease (payload : Payload) : Statement (.historyRelease payload) := of_request rfl rfl rfl

theorem historyNote (payload : Payload) : Statement (.historyNote payload) := of_request rfl rfl rfl

theorem setNextSerial (payload : Payload) : Statement (.setNextSerial payload) := of_request rfl rfl rfl

theorem clearFaults (payload : Payload) : Statement (.clearFaults payload) := of_request rfl rfl rfl

theorem setFaultMask (payload : Payload) : Statement (.setFaultMask payload) := of_request rfl rfl rfl

theorem getFaults (payload : Payload) : Statement (.getFaults payload) := of_request rfl rfl rfl

theorem setEventMask (payload : Payload) : Statement (.setEventMask payload) := of_request rfl rfl rfl

theorem getEvents (payload : Payload) : Statement (.getEvents payload) := of_request rfl rfl rfl

theorem pressInputRawChange (p : PressId) (input : PressInput) (level : Bool) : Statement (.pressInputRawChange p input level) := of_none rfl

theorem pressInputAccepted (p : PressId) (input : PressInput) : Statement (.pressInputAccepted p input) := of_none rfl

theorem trayPresentRawChange (level : Bool) : Statement (.trayPresentRawChange level) := of_none rfl

theorem trayPresentAccepted : Statement .trayPresentAccepted := of_none rfl

theorem scanMarker (p : PressId) : Statement (.scanMarker p) := of_none rfl

theorem temperatureReading (p : PressId) (r : StreamReading) : Statement (.temperatureReading p r) := of_none rfl

theorem overdueExpiry (p : PressId) : Statement (.overdueExpiry p) := of_none rfl

theorem readyDwellReached (p : PressId) : Statement (.readyDwellReached p) := of_none rfl

theorem timeoutTimerExpiry (p : PressId) (timer : TimeoutTimer) : Statement (.timeoutTimerExpiry p timer) := of_none rfl

theorem controlTick (p : PressId) : Statement (.controlTick p) := of_none rfl

theorem blindHoldExpiry (p : PressId) (zone : Nat) : Statement (.blindHoldExpiry p zone) := of_none rfl

theorem allocationRound : Statement .allocationRound := of_none rfl

theorem cureTick (p : PressId) : Statement (.cureTick p) := of_none rfl

theorem cureTimerExpiry (p : PressId) : Statement (.cureTimerExpiry p) := of_none rfl

theorem followerDelayEnd (p : PressId) (ch : Channel) : Statement (.followerDelayEnd p ch) := of_none rfl

theorem strokeEnd (p : PressId) (ch : Channel) : Statement (.strokeEnd p ch) := of_none rfl

theorem attemptTimerExpiry (p : PressId) (c : Cavity) : Statement (.attemptTimerExpiry p c) := of_none rfl

theorem scaleSample (x : ScaleSample) : Statement (.scaleSample x) := of_none rfl

theorem sampleTimerExpiry : Statement .sampleTimerExpiry := of_none rfl

theorem chargeExpiry (p : PressId) (c : Cavity) : Statement (.chargeExpiry p c) := of_none rfl

end Sys2Proof.Laws.TypeCode
end

