-- ==== Sys2Proof/Laws/Requests.lean ====
section
/-! SUPPORT. How a request is answered, how the number bytes of the statements read back, and what the order queue's
shared operations can do. -/

namespace Sys2Proof.Machine

/-! ## Number bytes -/

@[simp] theorem pressOf_pressByte (p : PressId) : pressOf (pressByte p).toNat = some p := by cases p <;> rfl

@[simp] theorem ownerOf_ownerByte (o : Owner) : ownerOf (ownerByte o).toNat = some o := by
  cases o with
  | cell => rfl
  | press p => cases p <;> rfl

@[simp] theorem positionOf_positionByte (pos : Position) : positionOf (positionByte pos).toNat = some pos := by cases pos <;> rfl

@[simp] theorem platenOf_platenByte (pl : Platen) : platenOf (platenByte pl).toNat = some pl := by cases pl <;> rfl

@[simp] theorem cavityOf_cavityByte (c : Cavity) : cavityOf (cavityByte c).toNat = some c := by cases c <;> rfl

/-- A press number outside 1 to 4 names no press. -/
theorem pressOf_eq_none {b : Byte} (h : b.toNat = 0 ∨ 4 < b.toNat) : pressOf b.toNat = none := by
  unfold pressOf
  split <;> first | rfl | omega

/-! ## Answers -/

theorem answer_refuse {type : Byte} {s : State} {c : Status} {d : Nat} (h : s.listening = true) :
    answer type s (.refuse c d) = .next (sendReply type [c.code, BitVec.ofNat 8 d] s) := by simp [answer, h]

theorem answer_ok {type : Byte} {s t : State} {fields : Payload} (h : s.listening = true) :
    answer type s (.ok fields t) = .next (sendReply type (0 :: fields) t) := by simp [answer, h]

/-- A port that does not listen ignores the request. -/
theorem answer_deaf {type : Byte} {s : State} {a : Answer} (h : s.listening = false) : answer type s a = .next s := by
  simp [answer, h]

@[simp] theorem onePress_pressByte (p : PressId) (f : PressId → Answer) : onePress [pressByte p] f = f p := by
  simp [onePress]

theorem onePress_bad {b : Byte} (h : b.toNat = 0 ∨ 4 < b.toNat) (f : PressId → Answer) : onePress [b] f = .refuse .badArg 1 := by
  simp [onePress, pressOf_eq_none h]

/-! ## The order queue -/

/-- `startBuild` does nothing, or takes the head order of an idle station with a tray into a build (R134). -/
theorem startBuild_cases (s : State) :
    startBuild s = s ∨ ∃ o rest, s.orders = o :: rest ∧ s.weigh.state = .idle ∧ s.weigh.tray.accepted = true ∧
      startBuild s = { s with weigh := { s.weigh with
        state := .taring, averages := []
        build := some ⟨o.number, o.press, o.cavity, o.recipe, o.attempts + 1, none, none, 1, 0, []⟩ } } := by
  unfold startBuild
  split
  · exact .inl rfl
  · next o rest h =>
    split
    · next hc => simp at hc; exact .inr ⟨o, rest, h, hc.1, hc.2, rfl⟩
    · exact .inl rfl

/-- Whatever it does, `startBuild` changes the weigh station only. -/
theorem startBuild_eq (s : State) : ∃ w, startBuild s = { s with weigh := w } := by
  rcases startBuild_cases s with h | ⟨o, rest, _, _, _, h⟩
  · exact ⟨s.weigh, h⟩
  · exact ⟨_, h⟩

@[simp] theorem startBuild_orders (s : State) : (startBuild s).orders = s.orders := by
  obtain ⟨w, h⟩ := startBuild_eq s; rw [h]

@[simp] theorem startBuild_press (s : State) (p : PressId) : (startBuild s).press p = s.press p := by
  obtain ⟨w, h⟩ := startBuild_eq s; rw [h]; rfl

@[simp] theorem startBuild_events (s : State) : (startBuild s).events = s.events := by
  obtain ⟨w, h⟩ := startBuild_eq s; rw [h]

/-- `appendOrder` places one order at the tail under a press's captured recipe, and nothing for a press without one. -/
theorem appendOrder_cases (p : PressId) (c : Cavity) (s : State) :
    ((s.press p).captured = none ∧ appendOrder p c s = s) ∨
      ∃ ref, (s.press p).captured = some ref ∧
        (appendOrder p c s).orders = s.orders ++ [⟨freshOrderNumber s.orders s.nextOrder, p, c, ref, 0⟩] ∧
        (∀ q, (appendOrder p c s).press q = s.press q) ∧ (appendOrder p c s).events = s.events := by
  unfold appendOrder
  split
  · next h => exact .inl ⟨h, rfl⟩
  · next ref h => exact .inr ⟨ref, h, by simp, fun q => by simp; rfl, by simp⟩

/-- `autoOrder` appends one order or does nothing. -/
theorem autoOrder_cases (p : PressId) (c : Cavity) (s : State) :
    autoOrder p c s = s ∨ (s.mayOrder p c = true ∧ autoOrder p c s = appendOrder p c s) := by
  unfold autoOrder
  split
  · next h => simp at h; exact .inr ⟨h.2, rfl⟩
  · exact .inl rfl

/-- `removeOrders` keeps exactly the orders it is not told to drop, and changes beside the queue the weigh station only. -/
theorem removeOrders_eq (drop : Order → Bool) (s : State) :
    ∃ w, removeOrders drop s = { s with orders := s.orders.filter fun o => !drop o, weigh := w } := by
  unfold removeOrders
  simp only
  split
  · obtain ⟨w, h⟩ := startBuild_eq (dropBuild .unloading { s with orders := s.orders.filter fun o => !drop o })
    exact ⟨w, h⟩
  · obtain ⟨w, h⟩ := startBuild_eq { s with orders := s.orders.filter fun o => !drop o }
    exact ⟨w, h⟩

end Sys2Proof.Machine
end

