-- ==== Sys2Proof/Tests/Slice0.lean ====
section
/-! SUPPORT. Tests: ill-formed terms refused, frames decoded, worked examples of the spec, and for every statement with
hypotheses a state that meets them. Expected values come from the spec's tables and examples, named at each test. -/

namespace Sys2Proof.Tests

/- The kernel checks of this file run one after another, so that their memory stays bounded. -/
set_option Elab.async false

open Sys2Proof Sys2Proof.Machine

/-! ## Well-formed terms -/

theorem test_wf_payload_refused : (Instr.identify (List.replicate 249 0)).wf = false := by decide +kernel

theorem test_wf_payload_accepted : (Instr.identify (List.replicate 248 0)).wf = true := by decide +kernel

theorem test_wf_empty_discard_refused : (Instr.frameDiscarded []).wf = false := by decide +kernel

theorem test_wf_known_type_refused : (Instr.unknownRequestType 0x22 [1]).wf = false := by decide +kernel

theorem test_wf_long_unknown_refused : (Instr.unknownRequestType 0x2A (List.replicate 249 0)).wf = false := by decide +kernel

theorem test_wf_reading_refused : (Instr.temperatureReading .p1 (.value 32768)).wf = false := by decide +kernel

theorem test_wf_sample_refused : (Instr.scaleSample (.raw (-8388609))).wf = false := by decide +kernel

theorem test_wf_zone_refused : (Instr.blindHoldExpiry .p1 24).wf = false := by decide +kernel

/-! ## Frames (R196: the CRC of the nine digits is 0x29B1, the check value of its polynomial and start) -/

theorem test_crc_check_value : crc16 [0x31, 0x32, 0x33, 0x34, 0x35, 0x36, 0x37, 0x38, 0x39] = 0x29B1 := by decide +kernel

theorem test_identify_frame : decodeFrame 5 [0xA7, 0x05, 0x01, 0x00, 0x14, 0x5D] = some (.identify []) := by decide +kernel

theorem test_load_frame : decodeFrame 5 [0xA7, 0x05, 0x22, 0x01, 0x01, 0xF3, 0x33] = some (.load [1]) := by decide +kernel

theorem test_unknown_frame : decodeFrame 5 [0xA7, 0x05, 0x2A, 0x00, 0xCE, 0x41] = some (.unknownRequestType 0x2A []) := by
  decide +kernel

theorem test_other_station : decodeFrame 6 [0xA7, 0x05, 0x01, 0x00, 0x14, 0x5D] = none := by decide +kernel

/-! ## A small cell -/

/-- The rate table of 06 section 6.2. -/
def demoRates : List (Int × Nat) :=
  [(1000, 0), (1100, 4), (1150, 16), (1200, 40), (1250, 72), (1300, 112), (1350, 176), (1400, 256), (1500, 640), (1550, 860),
    (1600, 1100), (1650, 1300), (1700, 1450), (1800, 1500), (1900, 1500), (2000, 1430)]

/-- A one-cavity recipe for a one-by-one grid: one ply of 1000 within 10. -/
def demoRecipe : Recipe where
  header := ⟨57, 1, 1, 1, 1, false, false⟩
  heat := ⟨[1500, 1500], 50, 5⟩
  ramp := none
  cure := ⟨200, demoRates, 90, 150, 30, 40, 10000⟩
  charge := ⟨[⟨[⟨1000, 10⟩], 20⟩], 600⟩
  footprint := [⟨⟨.top, 0, 0, 0, 0⟩, ⟨.bottom, 0, 0, 0, 0⟩⟩]
  eject := defaultEject 1

def demoConfig : PressConfig := ⟨1, 1, 256, 64, 50, 30, 100, 1000, 60, 10, 10, 120⟩

def demoZone : Zone where
  rated := 1500
  primaryFitted := true
  spareFitted := true
  primary := ⟨.ok, some 1500, 0⟩
  spare := ⟨.ok, some 1500, 0⟩
  mismatchRun := 0
  agreeRun := 0
  mismatch := false
  spe := some 1500
  iacc := 0
  demand := 0
  hold := .stopped
  hot := false
  feedLimited := false
  request := 0
  grant := 0
  duty := 0
  dose := 0
  residue := 0

def high : Filtered := ⟨true, 100, true⟩

def rising : Filtered := ⟨true, 100, false⟩

/-- Press 1 in a state, in RUN, with guard and heat permit asserted. -/
def demoPress (st : PressState) : Press :=
  { Press.initial { Inputs.low with guard := high, heatPermit := high } with
    state := st, heatMode := .run, config := some demoConfig, bound := some ⟨57, 1⟩, zones := [demoZone, demoZone]
    nextTick := some 0, overdue := some 0 }

/-- The cell after reset with press 1 in a state and a recipe in slot 1. -/
def demo (st : PressState) (f : Press → Press) : State :=
  { State.reset with
    recipes := ⟨.valid demoRecipe :: List.replicate 7 .empty, none⟩
    presses := { State.reset.presses with p1 := f (demoPress st) } }

/-- The state a command leaves. -/
def ran (r : Result) : State :=
  match r with
  | .next t => t
  | .fault _ => State.reset
  | .refused _ => State.reset

/-- Press 1 after a command. -/
def press1 (r : Result) : Press := (ran r).press .p1

/-- The reply after a request. -/
def replied (r : Result) : Payload := ((ran r).link.reply.map fun x => x.payload).getD []

/-- Zone 0 of press 1 after a command. -/
def zone0 (r : Result) : Option Zone := (press1 r).zones[0]?

/-! ## Worked examples -/

/-- 06 section 6.2. -/
theorem test_rates : [-150, 1000, 1395, 1487, 1488, 1500, 1850, 1937, 2100].map (rateAt demoRates)
    = [0, 0, 248, 590, 593, 640, 1500, 1475, 1430] := by decide +kernel

/-- 04 section 4.8, ticks 1, 6 and 7: demand and accumulator of a zone at 1450, 1800 and 1560 with setpoint 1500. -/
def heatTick (t iacc : Int) (hot : Bool) : Option (Int × Int × Bool) :=
  (zone0 (exec (.controlTick .p1) (demo .ready fun pr => { pr with
    zones := [{ demoZone with primary := ⟨.ok, some t, 0⟩, iacc := iacc, hot := hot }] }))).map fun z => (z.demand, z.iacc, z.hot)

theorem test_control_tick_law : heatTick 1450 307200 false = some (500, 310400, false) := by decide +kernel

theorem test_control_tick_hot : heatTick 1800 313600 false = some (0, 313600, true) ∧ heatTick 1560 313600 true = some (0, 309760, true) := by
  decide +kernel

/-- 06 section 6.11: the second tick of a zone at 1487. -/
theorem test_cure_tick_dose :
    (zone0 (exec (.cureTick .p1) (demo .curing fun pr => { pr with
      zones := [{ demoZone with primary := ⟨.ok, some 1487, 0⟩, dose := 460, residue := 240 }]
      cure := { pr.cure with state := .running, nextTick := some 0, closedTime := some 0 } }))).map (fun z => (z.dose, z.residue))
      = some (921, 224) := by
  decide +kernel

/-- 05 section 5.10: class 1 scaled at a limit of 5,000, the leftover of 4 passed to class 2. -/
theorem test_allocation_scaled :
    let c1 := serveClass 5000 [1500, 1500, 1200, 700, 900, 600]
    let c2 := serveClass (5000 - c1.granted) [300, 300]
    c1 = ⟨6400, 5000, 4996, true⟩ ∧ [1500, 1200, 700, 900, 600].map (grantOf 5000 6400) = [1171, 937, 546, 703, 468] ∧
      c2 = ⟨600, 4, 4, true⟩ ∧ grantDuty 1171 1500 = 780 ∧ grantDuty 468 1200 = 390 ∧ grantDuty 2 600 = 3 := by
  decide +kernel

/-- One round for press 1 in CURING with 5,000 to share: both zones at demand 1000 with 1,500 are granted in full (R99, R101). -/
theorem test_round_grants :
    ((press1 (exec .allocationRound { demo .curing (fun pr => { pr with zones := pr.zones.map fun z => { z with demand := 1000 } })
        with feed := { Feed.initial with configured := 5000, nextRound := 0 } })).zones.map fun z => (z.request, z.grant, z.duty))
      = [(1500, 1500, 1000), (1500, 1500, 1000)] := by
  decide +kernel

/-! ## Commands, one or two checks each (R numbers at each) -/

/-- R200. -/
theorem test_identify_reply : (replied (exec (.identify []) State.reset)).take 3 = [0, 0x53, 0x04] := by decide +kernel

/-- R198: a payload of the wrong length. -/
theorem test_identify_bad_length : replied (exec (.identify [0]) State.reset) = [0x02, 0] := by decide +kernel

/-- R200: twelve press bytes of state, prior state, mode and sources for UNCONFIGURED presses. -/
theorem test_get_status : (replied (exec (.getStatus []) State.reset)).take 5 = [0, 0, 0xFF, 0, 0] := by decide +kernel

/-- R201: limit 12,000, N 4, S 5, B 10, tare 20,000, filters 0; and N of 17 refused at field 2. -/
theorem test_cell_config :
    (ran (exec (.cellConfig [0x2E, 0xE0, 4, 5, 0, 10, 0x4E, 0x20, 0, 0]) State.reset)).feed.configured = 12000 ∧
    replied (exec (.cellConfig [0x2E, 0xE0, 17, 5, 0, 10, 0x4E, 0x20, 0, 0]) State.reset) = [0x03, 2] := by
  decide +kernel

/-- R202. -/
theorem test_cell_reset : (press1 (exec (.cellReset []) (demo .curing id))).state = .idle ∧
    (press1 (exec (.cellReset []) (demo .curing id))).heatMode = .off := by decide +kernel

/-- R203. -/
theorem test_restart_record : replied (exec (.getRestart []) State.reset) = [0, 0, 0, 0, 0, 0] ∧
    (ran (exec (.clearRestart []) State.reset)).restart = none := by decide +kernel

/-- R203: the RESET pin keeps the calibration rows and reads the straps. -/
theorem test_resets : (ran (exec (.resetPin 5 2) (demo .curing id))).link.address = 5 ∧
    (press1 (exec (.powerOn 5 2) (demo .curing id))).state = .unconfigured := by decide +kernel

/-- R197: a framing error. -/
theorem test_frame_discarded : exec (.frameDiscarded [⟨0xA7, false, false⟩, ⟨5, false, true⟩]) State.reset = .next State.reset := rfl

/-- R198. -/
theorem test_unknown_type : replied (exec (.unknownRequestType 0x2A []) State.reset) = [0x01, 0] := by decide +kernel

theorem test_reply_complete :
    (ran (exec .replyComplete (ran (exec (.identify []) State.reset)))).link = State.reset.link := by decide +kernel

/-- R5, R6: the slot is 1 and HEAT is expected; three columns are within a grid, five are not. -/
theorem test_recipe_begin : replied (exec (.recipeBegin [57, 1, 1, 3, 1, 0]) State.reset) = [0, 1, 0] ∧
    replied (exec (.recipeBegin [57, 1, 1, 5, 1, 0]) State.reset) = [0x03, 4] := by decide +kernel

/-- R7, R8: HEAT for a one-by-one grid; then CURE is expected. -/
theorem test_recipe_section :
    let s := ran (exec .replyComplete (ran (exec (.recipeBegin [57, 1, 1, 1, 1, 0]) State.reset)))
    replied (exec (.recipeSection [0, 0x05, 0xDC, 0x05, 0xDC, 50, 0, 5]) s) = [0, 2] ∧
    replied (exec (.recipeSection [1, 3]) s) = [0x06, 0] := by decide +kernel

/-- R15. -/
theorem test_recipe_abandon_delete : replied (exec (.recipeAbandon []) State.reset) = [0x04, 0] ∧
    replied (exec (.recipeDelete [57]) (demo .idle id)) = [0x07, 0] := by decide +kernel

/-- R17. -/
theorem test_recipe_list : (replied (exec (.recipeList []) (demo .idle id))).take 8 = [0, 2, 57, 1, 1, 1, 1, 4] := by decide +kernel

/-- R18. -/
theorem test_bind_recipe : replied (exec (.bindRecipe [1, 57]) (demo .held id)) = [0, 1] ∧
    replied (exec (.bindRecipe [1, 58]) (demo .idle id)) = [0x03, 2] := by decide +kernel

/-- R24: the payload of 20 + 6 bytes for one row and one column, two zones of 1500. -/
theorem test_press_config :
    (press1 (exec (.pressConfig [1, 1, 1, 0x05, 0xDC, 3, 0x05, 0xDC, 1, 1, 0, 0, 64, 50, 0, 30, 0, 100, 0x03, 0xE8, 0, 60, 10, 10,
      0, 120]) State.reset)).config = some demoConfig := by decide +kernel

/-- R26. -/
theorem test_heat_mode : (press1 (exec (.heatMode [1, 2]) (demo .idle id))).state = .preheat ∧
    (press1 (exec (.heatMode [1, 0]) (demo .ready id))).state = .idle := by decide +kernel

/-- A staged charge of cavity 0 under the bound recipe. -/
def demoCharge : Charge := ⟨9, .p1, .c0, ⟨57, 1⟩, 12000, [1001], 1001, 1, 0, 600000⟩

def staged (pr : Press) : Press := { pr with staging := ⟨[demoCharge], []⟩ }

/-- R31, R32: the reply lists the serial reserved. -/
theorem test_load : replied (exec (.load [1]) (demo .ready staged)) = [0, 1, 0, 0, 0, 1] ∧
    (press1 (exec (.load [1]) (demo .ready staged))).timers.loadT = some 60000 := by decide +kernel

theorem test_load_refused : replied (exec (.load [1]) (demo .ready id)) = [0x09, 0] ∧
    replied (exec (.load [1]) (demo .preheat staged)) = [0x04, 0] := by decide +kernel

/-- R42. -/
theorem test_resume : (press1 (exec (.resume [1]) (demo .held fun pr => { pr with prior := some .closing }))).timers.closeT = some 10000 ∧
    replied (exec (.resume [1]) (demo .ready id)) = [0x04, 0] := by decide +kernel

/-- R43: a FORCE_OPEN in CURING marks the incomplete cavity. -/
theorem test_force_open : (press1 (exec (.forceOpen [1]) (demo .curing id))).state = .opening ∧
    (press1 (exec (.forceOpen [1]) (demo .curing id))).cure.cavities.c0.undercured = true := by decide +kernel

/-- R45. -/
theorem test_abort : (press1 (exec (.abort [1]) (demo .curing id))).state = .aborting ∧
    (press1 (exec (.abort [1]) (demo .preheat id))).heatMode = .standby := by decide +kernel

/-- R49: SET is coded 0; PERMIT and GUARD are clear here. -/
theorem test_holds : replied (exec (.heatHold [1, 0]) (demo .idle id)) = [0, 1] ∧
    replied (exec (.motionHold [1, 0]) (demo .idle id)) = [0, 8] := by decide +kernel

/-- R50. -/
theorem test_auto : (press1 (exec (.auto [1, 2]) (demo .idle id))).autoOrder = true ∧
    (press1 (exec (.auto [1, 1]) (demo .idle id))).autoLoad = true := by decide +kernel

/-- R51: state READY is 3, no prior state, mode RUN is 2, recipe 57 revision 1, no pending binding. -/
theorem test_press_status : (replied (exec (.pressStatus [1]) (demo .ready id))).take 8 = [0, 3, 0xFF, 2, 57, 1, 0xFF, 0xFF] := by
  decide +kernel

/-- R56: values of both zones of the top platen's one zone. -/
theorem test_get_map : replied (exec (.getMap [1, 0, 0, 0, 0, 0, 0, 0, 0]) (demo .ready id)) = [0, 1, 0x05, 0xDC] := by decide +kernel

/-- R66. -/
theorem test_restore_sensor :
    replied (exec (.restoreSensor [1, 0, 0]) (demo .ready id)) = [0x04, 0] ∧
    (press1 (exec (.restoreSensor [1, 0, 1]) (demo .ready fun pr =>
      { pr with zones := [{ demoZone with spare := ⟨.failed, none, 3⟩ }] }))).zones.map (fun z => z.spare) = [⟨.doubtful, none, 0⟩] := by
  decide +kernel

/-- R68: PRIMARY, a value and no mismatch, then both sensors OK at 1500. -/
theorem test_sensor_status : (replied (exec (.sensorStatus [1]) (demo .ready id))).take 12
    = [0, 2, 0, 4, 0, 0x05, 0xDC, 0, 0, 0x05, 0xDC, 0] := by decide +kernel

/-- R72: one pair, zone 0 spare, pattern of four levels, tolerance 20, one loop. -/
def proveDemo : State :=
  ran (exec (.proveStart [1, 0, 1, 0, 0, 0x01, 0xF4, 0x03, 0xE8, 0x05, 0xDC, 20, 0, 1, 0]) (demo .idle id))

theorem test_prove_start : (proveDemo.press .p1).run.state = .running ∧
    ((proveDemo.press .p1).zones.map fun z => z.spare.state) = [.proving, .ok] := by decide +kernel

theorem test_prove_stop :
    (press1 (exec (.proveStop [1]) (ran (exec .replyComplete proveDemo)))).run.state = .stopped ∧
    replied (exec (.proveStop [1]) (demo .idle id)) = [0x04, 0] := by decide +kernel

/-- R79, R205: IDLE and no parameters, the levels unsigned. -/
theorem test_prove_status : (replied (exec (.proveStatus [1]) (demo .idle id))).take 4 = [0, 0, 0xFF, 0xFF] := by decide +kernel

/-- R96: mode RUN, no inhibit, from zone 1, one zone, setpoint 1500. -/
theorem test_heat_status : (replied (exec (.heatStatus [1, 1]) (demo .ready id))).take 7 = [0, 2, 0, 1, 1, 0x05, 0xDC] := by decide +kernel

/-- R106: no round yet, limits 0. -/
theorem test_feed_status : (replied (exec (.feedStatus []) State.reset)).take 9 = [0, 0xFF, 0xFF, 0xFF, 0xFF, 0, 0, 0, 0] := by
  decide +kernel

/-- R122: cure NONE, closed time absent, no tick. -/
theorem test_cure_status : (replied (exec (.cureStatus [1]) (demo .ready id))).take 8 = [0, 0, 0xFF, 0xFF, 0xFF, 0xFF, 0, 0] := by
  decide +kernel

/-- The station calibrated at 0 with a span of 1, idle, with four raw counts. -/
def scale (st : StationState) (f : Weigh → Weigh) : State :=
  { demo .idle id with weigh := f { State.reset.weigh with
      state := st, copy := ⟨0, some 65536, true, true, true, 0⟩, rawWindow := [100, 101, 101, 101] } }

/-- R130: the rounded mean of four counts; R130 step 5 with a reference of 1000 over 2000 counts. -/
theorem test_cal_zero_span : replied (exec (.calZero []) (scale .idle id)) = [0, 0, 0, 0, 101] ∧
    replied (exec (.calSpan [0, 0, 0x03, 0xE8]) (scale .idle fun w => { w with rawWindow := [2000, 2000, 2000, 2000] }))
      = [0, 0, 0, 0x80, 0] := by decide +kernel

/-- R131, R132. -/
theorem test_cal_set_commit :
    (ran (exec (.calSet [0xFF, 0xFF, 0xFF, 0xFE, 0, 1, 0, 0]) (scale .idle id))).weigh.copy = ⟨-2, some 65536, true, true, true, 0⟩ ∧
    (ran (exec (.calCommit []) (scale .idle id))).weigh.writing = some ⟨1, 0, 65536⟩ := by decide +kernel

theorem test_cal_row_written :
    let t := ran (exec .calRowWritten (ran (exec (.calCommit []) (scale .idle id))))
    t.weigh.rows.head? = some (some ⟨0, 65536, 0⟩) ∧ t.weigh.copy.origin = 1 ∧ t.link.reply = some ⟨0x53, [0, 1]⟩ := by decide +kernel

/-- R143: IDLE is 1, no tray, no average. -/
theorem test_weigh_status : (replied (exec (.weighStatus []) (scale .idle id))).take 7 = [0, 1, 0, 0x80, 0, 0, 0] := by decide +kernel

/-- R146: the order takes number 0; a third is one too many for the cavity. -/
theorem test_charge_order : replied (exec (.chargeOrder [1, 0, 1]) (scale .idle id)) = [0, 1, 0] ∧
    replied (exec (.chargeOrder [1, 0, 2]) { scale .idle id with orders := [⟨7, .p1, .c0, ⟨57, 1⟩, 0⟩] }) = [0x08, 0] := by
  decide +kernel

/-- R147. -/
theorem test_cancel_order : replied (exec (.cancelOrder [7]) (scale .idle id)) = [0x0A, 0] ∧
    (ran (exec (.cancelOrder [7]) { scale .idle id with orders := [⟨7, .p1, .c0, ⟨57, 1⟩, 0⟩] })).orders = [] := by decide +kernel

/-- R154: an empty queue and the next number. -/
theorem test_get_staging : replied (exec (.getStaging [0]) State.reset) = [0, 0, 0] ∧
    replied (exec (.getStaging [5]) State.reset) = [0x03, 1] := by decide +kernel

/-- R167: channel 0 leads cavity 0 and is UNUSED before a binding is applied here; its time and force are absent. -/
theorem test_eject_status : (replied (exec (.ejectStatus [1]) (demo .idle id))).take 7 = [0, 1, 0, 0, 0xFF, 0xFF, 0xFF] := by
  decide +kernel

/-- A log of one CLOSED and one OPEN record. -/
def logged : State :=
  { demo .curing id with history := ⟨[{ PartRecord.reserve 5 .p1 .c0 ⟨57, 1⟩ 0 with
      close := some ⟨.good, ⟨false, false, false, false, false⟩, 0⟩ }, PartRecord.reserve 6 .p1 .c0 ⟨57, 1⟩ 0], some 7⟩ }

/-- R177: one OPEN, one CLOSED, one unread, 510 free. -/
theorem test_history_list : (replied (exec (.historyList [0, 0, 0, 0, 16]) logged)).take 8 = [0, 1, 0, 1, 0, 1, 1, 0xFE] := by
  decide +kernel

/-- R178. -/
theorem test_history_read_next : replied (exec (.historyNext []) logged) = [0, 0, 0, 0, 5] ∧
    replied (exec (.historyNext []) (ran (exec .replyComplete (ran (exec (.historyRead [0, 0, 0, 5, 0]) logged))))) = [0x0A, 0] := by
  decide +kernel

/-- R204: part 1 of an OPEN record with nothing in it is 74 bytes with its status. -/
theorem test_history_read_part1 : (replied (exec (.historyRead [0, 0, 0, 6, 1]) logged)).length = 75 := by decide +kernel

/-- R179. -/
theorem test_history_release : replied (exec (.historyRelease [0, 0, 0, 9]) logged) = [0, 0, 1, 0, 1] ∧
    (ran (exec (.historyRelease [0, 0, 0, 9]) logged)).history.records.map (fun r => r.serial) = [6] := by decide +kernel

/-- R180. -/
theorem test_history_note : replied (exec (.historyNote [0, 0, 0, 6, 65]) logged) = [0x04, 0] ∧
    replied (exec (.historyNote [0, 0, 0, 5, 65]) logged) = [0] := by decide +kernel

/-- R181. -/
theorem test_set_next_serial : replied (exec (.setNextSerial [0, 0, 0, 0]) State.reset) = [0x03, 1] ∧
    (ran (exec (.setNextSerial [0, 0, 1, 0]) State.reset)).history.counter = some 256 := by decide +kernel

/-- A press held by a GUARD_OPEN. -/
def faulted : State :=
  ran (exec (.pressInputAccepted .p1 .guard) (demo .closing fun pr => { pr with
    inputs := { pr.inputs with guard := ⟨false, 100, true⟩ } }))

/-- R35, R186, R187: GUARD_OPEN is code 6, STOP 0; it stays while the guard is open. -/
theorem test_guard_open : (faulted.press .p1).state = .held ∧ (faulted.press .p1).prior = some .closing ∧
    replied (exec (.clearFaults [1]) faulted) = [0, 1, 6, 0, 0, 0, 0, 0, 0] := by decide +kernel

/-- R189. -/
theorem test_get_faults : (replied (exec (.getFaults [1]) faulted)).take 7 = [0, 6, 0, 0, 0, 0, 0] := by decide +kernel

/-- R188: a press has sixteen codes; OVERLOAD is a cell's. -/
theorem test_set_fault_mask : (replied (exec (.setFaultMask [1, 1, 1]) State.reset)).take 5 = [0, 16, 0, 1, 0] ∧
    replied (exec (.setFaultMask [1, 20, 1]) State.reset) = [0x03, 2] := by decide +kernel

/-- R192: RESTART cannot be disabled. -/
theorem test_set_event_mask : replied (exec (.setEventMask [9, 1]) State.reset) = [0x03, 2] ∧
    replied (exec (.setEventMask [1, 1]) State.reset) = [0, 0, 1, 0, 0, 0, 0, 0, 0, 0, 0] := by decide +kernel

/-- R191, R204: the RESTART entry of 14 bytes. -/
theorem test_get_events : replied (exec (.getEvents [16]) State.reset)
    = [0, 0, 1, 0, 9, 0, 0, 0, 0, 0, 0, 0, 0, 0, 0, 0, 0, 0] := by decide +kernel

/-- R34, R35: inputs that move the cycle, with a filter time of 0 at once. -/
theorem test_input_raw_change : (press1 (exec (.pressInputRawChange .p1 .loadedSw true) (demo .loading id))).state = .closing ∧
    (press1 (exec (.pressInputAccepted .p1 .closedSw) (demo .closing fun pr => { pr with
      inputs := { pr.inputs with closedSw := rising } }))).state = .curing := by decide +kernel

/-- R134. -/
theorem test_tray_present :
    (ran (exec (.trayPresentRawChange true) { scale .idle id with orders := [⟨7, .p1, .c0, ⟨57, 1⟩, 0⟩] })).weigh.state = .taring ∧
    (ran (exec .trayPresentAccepted { scale .unloading id with weigh := { (scale .unloading id).weigh with
      tray := ⟨false, 100, true⟩ } })).weigh.state = .idle := by decide +kernel

/-- R58, R61: a marker opens a scan, a reading beyond 300 from the last good one is bad. -/
theorem test_scan : (press1 (exec (.scanMarker .p1) (demo .ready id))).streamPos = some 0 ∧
    ((press1 (exec (.temperatureReading .p1 (.value 1801)) (demo .ready fun pr => { pr with streamPos := some 0 }))).zones.map
      fun z => (z.primary.state, z.primary.bad)) = [(.doubtful, 1), (.ok, 0)] := by decide +kernel

/-- R60. -/
theorem test_overdue : (press1 (exec (.overdueExpiry .p1) (demo .ready id))).overdue = some 100 ∧
    ((press1 (exec (.overdueExpiry .p1) (demo .ready id))).zones.map fun z => z.spare.bad) = [1, 1] := by decide +kernel

/-- R29: the dwell of 5 s. -/
theorem test_ready_dwell :
    (press1 (exec (.readyDwellReached .p1) (demo .preheat fun pr => { pr with readyRun := some 5000 }))).state = .ready ∧
    (press1 (exec (.readyDwellReached .p1) (demo .preheat fun pr => { pr with readyRun := some 4999 }))).state = .preheat := by
  decide +kernel

/-- R28, R45. -/
theorem test_timeouts :
    (press1 (exec (.timeoutTimerExpiry .p1 .loadT) (demo .loading fun pr => { pr with
      timers := { Timers.none with loadT := some 0 } }))).state = .held ∧
    (press1 (exec (.timeoutTimerExpiry .p1 .openT) (demo .aborting fun pr => { pr with
      timers := { Timers.none with openT := some 0 } }))).timers.openT = some 10000 := by decide +kernel

/-- R91. -/
theorem test_blind_hold : ((press1 (exec (.blindHoldExpiry .p1 0) (demo .ready fun pr => { pr with
    zones := [{ demoZone with primary := ⟨.failed, none, 3⟩, spare := ⟨.failed, none, 3⟩, demand := 640, hold := .running 0 }] }))).zones.map
      fun z => (z.demand, z.hold)) = [(0, .expired)] := by decide +kernel

/-- R117. -/
theorem test_cure_timer : (press1 (exec (.cureTimerExpiry .p1) (demo .curing fun pr => { pr with
    cure := { pr.cure with state := .running, timer := .running 0 } }))).state = .held := by decide +kernel

/-- R125 to R128 with a span of 1: the mass is the raw count. -/
theorem test_scale_sample : (ran (exec (.scaleSample (.raw 12004)) (scale .idle id))).weigh.averages = [12004] ∧
    (ran (exec (.scaleSample .corrupted) (scale .idle fun w => { w with errors := 49 }))).weigh.state = .faulted := by decide +kernel

/-- R126. -/
theorem test_sample_timer :
    (ran (exec .sampleTimerExpiry (scale .idle fun w => { w with sampleTimer := 0 }))).weigh.errors = 1 := by decide +kernel

/-- R149. -/
theorem test_charge_expiry :
    (press1 (exec (.chargeExpiry .p1 .c0) { demo .ready staged with time := 600000 })).staging.c0 = [] ∧
    (press1 (exec (.chargeExpiry .p1 .c0) { demo .ready staged with time := 599999 })).staging.c0 = [demoCharge] := by decide +kernel

/-- An ejection of the default settings whose lead strokes at force step 1, attempt 4 of 4 or less. -/
def ejecting (seq : Nat) (left : Nat) : State :=
  demo .ejecting fun pr => { pr with eject :=
    ⟨⟨.stroking left 1, .delaying 0, .unused, .unused⟩,
      ⟨{ EjectCavity.cleared with state := .attempting, seqAttempts := seq, totalAttempts := seq, timer := some 0, start := some 0 },
        EjectCavity.cleared⟩⟩ }

/-- R161, R162. -/
theorem test_attempt_timer :
    (press1 (exec (.attemptTimerExpiry .p1 .c0) (ejecting 1 5))).eject.channels.ch0 = .stroking 800 2 ∧
    (press1 (exec (.attemptTimerExpiry .p1 .c0) (ejecting 4 5))).eject.cavities.c0.state = .halted := by decide +kernel

/-- R158. -/
theorem test_stroke_end : (press1 (exec (.strokeEnd .p1 .ch0) (ejecting 1 0))).eject.channels.ch0 = .idle ∧
    (press1 (exec (.strokeEnd .p1 .ch0) (ejecting 1 1))).eject.channels.ch0 = .stroking 1 1 := by decide +kernel

theorem test_follower_delay : (press1 (exec (.followerDelayEnd .p1 .ch1) (ejecting 1 5))).eject.channels.ch1 = .idle := by
  decide +kernel

/-! ## The hypotheses of the statements are met

One theorem for each statement with hypotheses: a state and operands that meet them, clause by clause. -/

theorem wit_StepTakesFrontCommand : ({ State.reset with pending := [.replyComplete] } : State).pending = .replyComplete :: [] := rfl

theorem wit_EmptyQueueLetsTimePass : State.reset.pending = [] ∧ dueEvents State.reset = [] ∧
    dueEvents (scale .idle fun w => { w with sampleTimer := 0 }) ≠ [] ∧
    (scale .idle fun w => { w with sampleTimer := 0 }).pending = [] := by decide +kernel

theorem wit_CommandsKeepTheQueue : ∃ t, exec (.controlTick .p1) (demo .ready id) = .next t := ⟨_, rfl⟩

theorem wit_EveryRequestIsAnswered : (Instr.load [1]).wf = true ∧ frameOf (.load [1]) = some (0x22, [1]) ∧
    (∀ p, Instr.load [1] ≠ .calCommit p) ∧ (demo .ready staged).listening = true :=
  ⟨by decide +kernel, by decide +kernel, (by intro p h; cases h), by decide +kernel⟩

theorem wit_PortTakesWholeFramesOnly_busy : (frameOf (.load [1])).isSome = true ∧
    (ran (exec (.calCommit []) (scale .idle id))).link.port = .working ∧
    (ran (exec (.identify []) State.reset)).link.port = .replying := by decide +kernel

theorem wit_PortTakesWholeFramesOnly_frames : State.reset.link.port = .listen ∧ State.reset.link.received = [] ∧
    (List.replicate 248 (0 : Byte)).length ≤ 248 ∧ ([0, 0] : Payload).length = 2 ∧
    ([0, 0] : Payload) ≠ crcBytes [0, 0x22, 1, 1] ∧
    (1 : Byte) ≠ State.reset.link.address.zeroExtend 8 ∧ 248 < (249 : Byte).toNat ∧ (0xA6 : Byte) ≠ startByte := by decide +kernel

theorem wit_PortTakesWholeFramesOnly_types : (requestOf 0x2A []).isNone = true ∧ State.reset.listening = true ∧
    (ran (exec (.identify []) State.reset)).link.port = .replying := by decide +kernel

theorem wit_FramesDecodeToTheirRequests :
    (Instr.recipeSection (List.replicate 248 0)).wf = true ∧ (encode 31 (.recipeSection (List.replicate 248 0))).isSome = true ∧
    (Instr.identify []).wf = true ∧ (encode 0 (.identify [])).isSome = true := by decide +kernel

theorem wit_CellResetQuietsTheCell : logged.listening = true ∧ (logged.press .p1).configured = true ∧
    (logged.press .p2).configured = false ∧ (logged.press .p1).run.state ≠ .running ∧
    (ran (exec .replyComplete proveDemo)).listening = true ∧ (proveDemo.press .p1).configured = true ∧
    (proveDemo.press .p1).run.state = .running ∧
    (∃ k ∈ (proveDemo.press .p1).run.selection, k.zone < (proveDemo.press .p1).zoneCount) := by decide +kernel

theorem wit_ReportsChangeNothing_cell : (demo .ready staged).listening = true := by decide +kernel

theorem wit_CellConfigApplies_low :
    readFields [2, 1, 1, 2, 2, 1, 1] [0, 1, 1, 5, 0, 1, 0, 0, 0, 0] = [1, 1, 5, 1, 0, 0, 0] ∧
    State.reset.listening = true ∧ State.reset.weigh.state = .uncalibrated ∧ State.reset.weigh.tray.due 0 = false ∧
    ∀ p k, ((State.reset.press p).inputs.get k).due 0 = false :=
  ⟨by decide +kernel, by decide +kernel, by decide +kernel, by decide +kernel,
    by intro p k; cases p <;> cases k <;> decide +kernel⟩

theorem wit_CellConfigApplies_high :
    readFields [2, 1, 1, 2, 2, 1, 1] [0xFF, 0xFF, 16, 50, 0x07, 0xD0, 0xC3, 0x50, 100, 100]
      = [65535, 16, 50, 2000, 50000, 100, 100] ∧ (scale .idle id).weigh.state = .idle ∧
    (scale .idle id).weigh.tray.due 100 = false ∧ ∀ p k, (((scale .idle id).press p).inputs.get k).due 100 = false :=
  ⟨by decide +kernel, by decide +kernel, by decide +kernel, by intro p k; cases p <;> cases k <;> decide +kernel⟩

theorem wit_CellConfigApplies_building :
    readFields [2, 1, 1, 2, 2, 1, 1] [0, 1, 4, 10, 0, 10, 0x4E, 0x20, 0, 0] = [1, 4, 10, 10, 20000, 0, 0] ∧
    (scale .taring id).weigh.params = ⟨4, 10, 10, 20000⟩ ∧ (scale .taring id).weigh.params ≠ ⟨5, 10, 10, 20000⟩ ∧
    (scale .taring id).weigh.state ≠ .idle ∧ (scale .taring id).listening = true ∧
    (scale .idle fun w => { w with sampleTimer := 0 }).weigh.sampleTimer = 0 := by decide +kernel

/-- Press 1 in LOADING with LOADED high for 40 ms and not accepted, under a filter time of 100. -/
def halfLoaded : State :=
  { demo .loading (fun pr => { pr with inputs := { pr.inputs with loadedSw := ⟨true, 40, false⟩ } }) with pressFilter := 100 }

theorem wit_CellConfigApplies_due :
    readFields [2, 1, 1, 2, 2, 1, 1] [0, 1, 4, 10, 0, 10, 0x4E, 0x20, 40, 0] = [1, 4, 10, 10, 20000, 40, 0] ∧
    halfLoaded.weigh.tray.due 0 = false ∧
    (∀ q j, ((halfLoaded.press q).inputs.get j).due 40 = true ↔ q = .p1 ∧ j = .loadedSw) ∧
    (∀ q j, ((State.reset.press q).inputs.get j).due 0 = false) ∧ (scale .idle fun w => { w with tray := rising }).weigh.tray.due 100 = true := by
  refine ⟨by decide +kernel, by decide +kernel, ?_, ?_, by decide +kernel⟩ <;> intro q j <;> cases q <;> cases j <;> decide +kernel

/-- R22, R201: a shorter filter time accepts LOADED at once, and the press closes. -/
theorem test_cell_config_accepts :
    (press1 (exec (.cellConfig [0, 1, 4, 10, 0, 10, 0x4E, 0x20, 40, 0]) halfLoaded)).state = .closing ∧
    (press1 (exec (.cellConfig [0, 1, 4, 10, 0, 10, 0x4E, 0x20, 41, 0]) halfLoaded)).state = .loading := by decide +kernel

/-- A recipe stored and not in use; ids 1 and 255 are the ends of their range. -/
def shelved : State := { State.reset with recipes := ⟨.valid demoRecipe :: List.replicate 7 .empty, none⟩ }

theorem wit_RecipeBeginOpensALoad_again : shelved.listening = true ∧ shelved.inUse 57 = false ∧
    (∃ r, shelved.recipes.slots[0]? = some (.valid r) ∧ r.header.id = 57 ∧
      ∀ j r', j < 0 → shelved.recipes.slots[j]? = some (.valid r') → r'.header.id ≠ 57) :=
  ⟨by decide +kernel, by decide +kernel, demoRecipe, rfl, rfl, by intro j r' h; omega⟩

theorem wit_RecipeBeginOpensALoad_new : shelved.inUse 1 = false ∧ shelved.inUse 255 = false ∧
    (∀ r, Slot.valid r ∈ shelved.recipes.slots → r.header.id ≠ 1 ∧ r.header.id ≠ 255) ∧
    (shelved.recipes.slots.map Slot.discard)[1]? = some .empty ∧
    ∀ j, j < 1 → (shelved.recipes.slots.map Slot.discard)[j]? ≠ some .empty := by
  refine ⟨by decide +kernel, by decide +kernel, ?_, by decide +kernel, by decide +kernel⟩
  intro r h
  simp [shelved] at h
  subst h
  decide +kernel

/-- A load in progress that expects HEAT, for a recipe of one by one with one cavity. -/
def loading : State :=
  { State.reset with recipes := ⟨.loading ⟨58, 1, 1, 1, 1, false, false⟩ .fresh :: List.replicate 7 .empty, some .heat⟩ }

/-- A load in progress that has all but its FOOTPRINT. -/
def lastLoading : State :=
  { State.reset with recipes := ⟨.loading demoRecipe.header
      ⟨some demoRecipe.heat, none, some demoRecipe.cure, some demoRecipe.charge, none, none⟩ :: List.replicate 7 .empty,
      some .footprint⟩ }

def heatContents : Payload := [0x05, 0xDC, 0x05, 0xDC, 50, 0, 5]

theorem wit_RecipeSectionAdvances_refused : loading.recipes.pointer = some .heat ∧
    (loading.recipes.loading?.map fun x => x.1) = some 0 ∧
    sectionWidths ⟨58, 1, 1, 1, 1, false, false⟩ [3] .ramp = some [1] ∧ Section.ramp ≠ .heat := by decide +kernel

theorem wit_RecipeSectionAdvances_next : loading.listening = true ∧
    sectionWidths ⟨58, 1, 1, 1, 1, false, false⟩ heatContents .heat = some [2, 2, 1, 2] ∧
    firstFailing (sectionChecks ⟨58, 1, 1, 1, 1, false, false⟩ (readFields [2, 2, 1, 2] heatContents) .heat) = none ∧
    nextSection ⟨58, 1, 1, 1, 1, false, false⟩ .heat = some .cure := by decide +kernel

theorem wit_RecipeSectionAdvances_last : lastLoading.listening = true ∧ lastLoading.recipes.pointer = some .footprint ∧
    (lastLoading.recipes.loading?.map fun x => x.1) = some 0 ∧
    sectionWidths demoRecipe.header (List.replicate 8 0) .footprint = some (List.replicate 8 1) ∧
    firstFailing (sectionChecks demoRecipe.header (readFields (List.replicate 8 1) (List.replicate 8 0)) .footprint) = none ∧
    nextSection demoRecipe.header .footprint = none ∧
    (storeSection demoRecipe.header (readFields (List.replicate 8 1) (List.replicate 8 0)) .footprint
      ⟨some demoRecipe.heat, none, some demoRecipe.cure, some demoRecipe.charge, none, none⟩).complete demoRecipe.header
      = some demoRecipe := by decide +kernel

theorem wit_RecipeAbandonAndDelete : loading.listening = true ∧ loading.recipes.pointer = some .heat ∧
    shelved.recipes.pointer = none ∧ (∀ x ∈ shelved.recipes.slots, Slot.holdsId 58 x = false) ∧
    shelved.recipes.slots[0]? = some (.valid demoRecipe) ∧ shelved.inUse 57 = false ∧ (demo .idle id).inUse 57 = true ∧
    (demo .idle id).recipes.slots[0]? = some (.valid demoRecipe) ∧
    loading.recipes.slots[0]? = some (.loading ⟨58, 1, 1, 1, 1, false, false⟩ .fresh) := by decide +kernel

theorem wit_BindRecipeBinds : (demo .idle id).listening = true ∧ ((demo .idle id).press .p1).config = some demoConfig ∧
    (demo .idle id).recipes.find 57 = some demoRecipe ∧ demoRecipe.header.rows = demoConfig.rows ∧
    demoRecipe.header.cols = demoConfig.cols ∧ ((demo .idle id).press .p1).state = .idle ∧
    ((demo .preheat id).press .p1).state = .preheat ∧ ((demo .ready id).press .p1).state = .ready ∧
    ((demo .clearing id).press .p1).state.inCycle = true ∧ ((demo .held id).press .p1).state = .held ∧
    ((demo .aborting id).press .p1).state = .aborting := by decide +kernel

theorem wit_ReportsChangeNothing_press : (demo .ready id).listening = true ∧ ((demo .ready id).press .p1).configured = true ∧
    ((demo .ready id).press .p2).configured = false ∧ ((1 : Byte).toNat < ((demo .ready id).press .p1).zoneCount) ∧
    (0 : Byte).toNat = 0 ∧ 4 < (5 : Byte).toNat := by decide +kernel

/-- A press bound to a recipe that is stored no more, with a charge and an order under it. -/
def rebinding (st : PressState) (auto : Bool) : State :=
  { demo st (fun pr => { pr with
      bound := some ⟨58, 1⟩, autoOrder := auto, staging := ⟨[{ demoCharge with recipe := ⟨58, 1⟩ }], []⟩ }) with
    orders := [⟨7, .p1, .c0, ⟨58, 1⟩, 0⟩], weigh := { State.reset.weigh with state := .idle } }

theorem wit_BindRecipeBinds_auto : (rebinding .ready true).listening = true ∧
    ((rebinding .ready true).press .p1).autoOrder = true ∧ ((rebinding .ready false).press .p1).autoOrder = false ∧
    ((rebinding .ready true).press .p1).heatMode = .run ∧ (rebinding .ready true).weigh.state ≠ .uncalibrated ∧
    (((rebinding .ready true).press .p1).staging.get .c0).length = 1 ∧ cavityCode .c0 < demoRecipe.header.cavities ∧
    demoRecipe.header.cavities ≤ cavityCode .c1 ∧ State.reset.weigh.state = .uncalibrated := by decide +kernel

theorem wit_BindRecipeBinds_places : (rebinding .ready true).StagedInPlace ∧ (rebinding .ready true).BuildInBuildStates ∧
    (shelved.BuildInBuildStates ∧ shelved.weigh.state = .uncalibrated) := by
  refine ⟨?_, rfl, rfl, rfl⟩
  intro p c
  cases p <;> cases c <;> decide +kernel

/-- R20, R151, R152: the charge goes with an event, the order with none, and auto-order answers the charge. -/
theorem test_bind_scrubs : (ran (exec (.bindRecipe [1, 57]) (rebinding .ready true))).orders = [⟨0, .p1, .c0, ⟨57, 1⟩, 0⟩] ∧
    ((ran (exec (.bindRecipe [1, 57]) (rebinding .ready true))).events.queue.map fun e => e.kind)
      = [.restart, .chargeScrapped, .pressState] := by decide +kernel

/-- A press of three by four, the largest grid. -/
def widePress : State :=
  demo .ready fun pr => { pr with config := some { demoConfig with rows := 3, cols := 4 }, zones := List.replicate 24 demoZone }

theorem wit_MapReportsTheWindowOnce : widePress.listening = true ∧ (widePress.press .p1).configured = true ∧
    (widePress.press .p1).config = some { demoConfig with rows := 3, cols := 4 } ∧
    (widePress.press .p1).zoneCount = 2 * 3 * 4 ∧ (⟨.bottom, 0, 2, 0, 3⟩ : Window).rowEnd < 3 ∧
    (⟨.bottom, 0, 2, 0, 3⟩ : Window).colEnd < 4 := by decide +kernel

/-- R55: the zones of the first two columns of the top platen, by column, decreasing: 9, 5, 1, 8, 4, 0. -/
theorem test_map_by_column :
    let s := demo .ready fun pr => { pr with
      config := some { demoConfig with rows := 3, cols := 4 }
      zones := (List.range 24).map fun i => { demoZone with primary := ⟨.ok, some (1500 + i), 0⟩ } }
    replied (exec (.getMap [1, 0, 0, 2, 0, 1, 1, 1, 0]) s)
      = [0, 6, 5, 0xE5, 5, 0xE1, 5, 0xDD, 5, 0xE4, 5, 0xE0, 5, 0xDC] := by decide +kernel

theorem wit_ReportsChangeNothing_queries : logged.listening = true ∧
    readFields [4, 1] [0xFF, 0xFF, 0xFF, 0xFF, 16] = [4294967295, 16] ∧ readFields [4, 1] [0, 0, 0, 0, 1] = [0, 1] ∧
    (logged.history.records.find? fun x => x.close.isSome && !x.readFlag).isSome = true ∧
    State.reset.history.records.find? (fun x => x.close.isSome && !x.readFlag) = none := by decide +kernel

theorem wit_EventsDrainAndAttnFollows_drain : State.reset.listening = true ∧ 1 ≤ (1 : Byte).toNat ∧ (16 : Byte).toNat ≤ 16 ∧
    16 < (17 : Byte).toNat ∧ (0 : Byte).toNat = 0 := by decide +kernel

theorem wit_EventsDrainAndAttnFollows_attn : ({ State.reset with events := ⟨[], false, [.fault]⟩ } : State).events.queue = [] ∧
    ({ State.reset with events := ⟨[], false, [.fault]⟩ } : State).events.disabled.contains .chargeDone = false ∧
    ({ State.reset with events := ⟨[], false, [.fault]⟩ } : State).events.disabled.contains .fault = true ∧
    64 ≤ ({ State.reset with events := ⟨List.replicate 64 ⟨.restart, none, .cause .powerOn, none, 0⟩, false, []⟩ } :
      State).events.queue.length ∧ State.reset.listening = true := by decide +kernel

theorem wit_RaisingAFault : FaultCode.cls .overheat = .stop ∧ FaultCode.cls .feedShort ≠ .stop ∧
    FaultCode.cls .guardLost = .advisory ∧ FaultCode.cls .zoneSpared ≠ .advisory ∧
    (logged.ownerFaults (.press .p1)).first = none ∧ ((faulted.ownerFaults (.press .p1)).first.isSome = true) ∧
    (∃ a ∈ (faulted.ownerFaults (.press .p1)).active, a.code = .guardOpen ∧ a.qual = .none) ∧
    (logged.history.records[1]?.map fun r => (r.close, r.press)) = some (none, .p1) ∧
    (logged.ownerFaults (.press .p1)).quiet.contains .overheat = false ∧ logged.events.disabled.contains .fault = false ∧
    logged.events.queue.length < 64 ∧
    (({ logged with cellFaults := ⟨none, [], [], [.overload]⟩ } : State).ownerFaults .cell).quiet.contains .overload = true ∧
    (logged.press .p1).state.isActive = true ∧ (State.reset.press .p1).state.isActive = false := by
  decide +kernel

theorem wit_FaultAndEventRequests : faulted.listening = true ∧ FaultCode.overheat ∈ catalogue (.press .p1) ∧
    FaultCode.overload ∈ catalogue .cell ∧ FaultCode.overload ∉ catalogue (.press .p4) ∧ FaultCode.overheat ∉ catalogue .cell ∧
    (1 : Byte).toNat ≤ 1 := by decide +kernel

def entry : ZoneEntry := ⟨1500, true, true⟩

/-- Both ends of every range of R24's table. -/
def leastConfig : PressConfig := ⟨1, 1, 0, 0, 10, 0, 50, 0, 30, 1, 1, 5⟩

def mostConfig : PressConfig := ⟨3, 4, 1023, 1023, 200, 600, 500, 2000, 600, 60, 60, 600⟩

theorem wit_PressConfigTakesConfiguration_ranges :
    leastConfig.inRanges [⟨0, true, false⟩, ⟨2000, false, true⟩] ∧ mostConfig.inRanges (List.replicate 24 ⟨2000, true, true⟩) := by
  unfold PressConfig.inRanges
  decide +kernel

theorem wit_PressConfigTakesConfiguration_states : demoConfig.inRanges [entry, entry] ∧ (demo .ready id).listening = true ∧
    ((demo .ready id).press .p1).state ≠ .unconfigured ∧ ((demo .ready id).press .p1).state ≠ .idle ∧
    (State.reset.press .p1).state = .unconfigured ∧ (State.reset.press .p1).config = none ∧
    (State.reset.press .p1).run.state ≠ .running ∧ ((demo .idle id).press .p1).state = .idle ∧
    ((demo .idle id).press .p1).config = some demoConfig ∧ ((demo .idle id).press .p1).run.state ≠ .running ∧
    ((demo .idle id).press .p1).zoneCount = [entry, entry].length ∧ demoConfig.rows ≠ mostConfig.rows ∧
    (proveDemo.press .p1).state = .idle ∧ (proveDemo.press .p1).run.state = .running ∧
    (ran (exec .replyComplete proveDemo)).listening = true := by
  unfold PressConfig.inRanges
  decide +kernel

theorem wit_HeatModeByState : (demo .idle id).listening = true ∧ ((demo .idle id).press .p1).state = .idle ∧
    ((demo .idle id).press .p1).bound.isSome = true ∧ ((demo .idle fun pr => { pr with bound := none }).press .p1).bound = none ∧
    ((demo .preheat id).press .p1).state = .preheat ∧ ((demo .ready id).press .p1).state = .ready ∧
    ((demo .curing id).press .p1).state ≠ .idle ∧ ((demo .curing id).press .p1).state ≠ .preheat ∧
    ((demo .curing id).press .p1).state ≠ .ready ∧ (2 : Byte).toNat ≤ 2 ∧ 2 < (3 : Byte).toNat ∧
    (0 : Byte).toNat = 0 ∧ 4 < (5 : Byte).toNat := by decide +kernel

/-- READY with a staged charge and an input accepted-asserted. -/
def loadDemo (a b : Bool) : State :=
  demo .ready fun pr => { staged pr with
    inputs := { pr.inputs with loadedSw := ⟨a, 100, a⟩, closedSw := ⟨b, 100, b⟩ } }

theorem wit_LoadTakesTheCharges_refused : (demo .preheat staged).listening = true ∧
    ((demo .preheat staged).press .p1).state ≠ .ready ∧ ((demo .ready id).press .p1).state = .ready ∧
    ((demo .ready fun pr => { pr with run := { pr.run with state := .running } }).press .p1).run.state = .running ∧
    ((demo .ready id).press .p1).run.state ≠ .running ∧ ((demo .ready id).press .p1).bound = some ⟨57, 1⟩ ∧
    (demo .ready id).boundRecipe .p1 = some demoRecipe ∧
    (∃ c ∈ cavitiesOf demoRecipe.header.cavities, ((demo .ready id).press .p1).staging.get c = []) := by decide +kernel

theorem wit_LoadTakesTheCharges_loads :
    (∀ c ∈ cavitiesOf demoRecipe.header.cavities, ∃ ch rest,
      ((demo .ready staged).press .p1).staging.get c = ch :: rest ∧ ch.recipe = ⟨57, 1⟩) ∧
    (demo .ready staged).history.counter = some 1 ∧
    (cavitiesOf demoRecipe.header.cavities).length ≤ (demo .ready staged).history.free ∧
    ({ demo .ready staged with history := ⟨List.replicate 512 (PartRecord.reserve 5 .p1 .c0 ⟨57, 1⟩ 0), some 6⟩ } :
      State).history.free < (cavitiesOf demoRecipe.header.cavities).length ∧
    ((loadDemo false false).press .p1).level .loadedSw = false ∧ ((loadDemo true false).press .p1).level .loadedSw = true ∧
    ((loadDemo true false).press .p1).level .closedSw = false ∧ ((loadDemo true true).press .p1).level .closedSw = true :=
  ⟨by intro c h; simp [cavitiesOf, demoRecipe] at h; subst h; exact ⟨demoCharge, [], rfl, rfl⟩,
    by decide +kernel, by decide +kernel, by decide +kernel, by decide +kernel, by decide +kernel, by decide +kernel,
    by decide +kernel⟩

/-- READY with a staged charge, auto-order on or off and a station that takes orders. -/
def orderingDemo (auto : Bool) : State :=
  { demo .ready (fun pr => { staged pr with autoOrder := auto }) with weigh := { State.reset.weigh with state := .idle } }

theorem wit_LoadTakesTheCharges_orders : ((orderingDemo true).press .p1).autoOrder = true ∧
    ((orderingDemo false).press .p1).autoOrder = false ∧ ((orderingDemo true).press .p1).heatMode = .run ∧
    ((orderingDemo true).press .p1).pendingBinding = none ∧ (orderingDemo true).weigh.state ≠ .uncalibrated ∧
    (orderingDemo true).orders.length + (cavitiesOf demoRecipe.header.cavities).length ≤ 8 ∧ 1 ≤ demoRecipe.header.cavities ∧
    (orderingDemo true).supply .p1 .c0 ≤ 2 := by decide +kernel

/-- R152: the charge taken is answered by an order. -/
theorem test_auto_order_after_take :
    (ran (exec (.load [1]) (orderingDemo true))).orders = [⟨0, .p1, .c0, ⟨57, 1⟩, 0⟩] ∧
    (ran (exec (.load [1]) (orderingDemo false))).orders = [] := by decide +kernel

/-- READY with auto-load on, a staged charge and a number of CLOSED records in the log. -/
def autoDemo (f : Press → Press) (n : Nat) : State :=
  { demo .ready (fun pr => f { staged pr with autoLoad := true }) with
    history := ⟨(List.range n).map fun i => { PartRecord.reserve (i + 1) .p1 .c0 ⟨57, 1⟩ 0 with
      close := some ⟨.good, ⟨false, false, false, false, false⟩, 0⟩ }, some 600⟩ }

/-- R33: 511 records leave the one place that LOAD needs, 512 leave none. -/
theorem wit_AutoLoadIsReexamined : (demo .ready staged).autoLoadOff .p1 ∧ ((autoDemo id 511).press .p1).autoLoad = true ∧
    ((autoDemo id 511).press .p1).bound = some ⟨57, 1⟩ ∧ (autoDemo id 511).boundRecipe .p1 = some demoRecipe ∧
    (autoDemo id 511).listening = true ∧ ((autoDemo id 511).press .p1).state = .ready ∧
    ((autoDemo id 511).press .p1).run.state ≠ .running ∧
    ((autoDemo id 511).press .p1).staging.get .c0 = demoCharge :: [] ∧
    (cavitiesOf demoRecipe.header.cavities).length ≤ (autoDemo id 511).history.free ∧
    (autoDemo id 512).history.free < (cavitiesOf demoRecipe.header.cavities).length ∧
    ((autoDemo (fun pr => { pr with historyFull := true }) 512).press .p1).historyFull = true ∧
    ((autoDemo id 512).press .p1).historyFull = false ∧
    ((autoDemo (fun pr => { pr with state := .held }) 0).press .p1).state ≠ .ready := by
  unfold State.autoLoadOff
  decide +kernel

theorem wit_AutoLoadIsReexamined_moments : (demo .ready staged).listening = true ∧
    ((demo .ready staged).press .p1).configured = true ∧
    ((demo .preheat fun pr => { pr with readyRun := some 5000 }).press .p1).readyRun = some 5000 ∧
    (demo .preheat id).boundRecipe .p1 = some demoRecipe ∧ demoRecipe.heat.readyDwell * 1000 ≤ 5000 ∧
    (demo .preheat id).allInBand .p1 = true ∧
    (∃ x ∈ (autoDemo id 2).history.records, x.close.isSome = true ∧ x.serial ≤ 1) ∧
    (ran (exec .replyComplete proveDemo)).listening = true ∧ (proveDemo.press .p1).run.state = .running := by decide +kernel

/-- R33: the load that a full log stops is told once, and goes through once a record is released. -/
theorem test_history_full :
    let s := examineAutoLoad .p1 (autoDemo id 512)
    (s.press .p1).historyFull = true ∧ (s.press .p1).state = .ready ∧ (examineAutoLoad .p1 s).events = s.events ∧
    (press1 (exec (.historyRelease [0, 0, 0, 1]) s)).state = .loading ∧
    (press1 (exec (.historyRelease [0, 0, 0, 1]) s)).historyFull = false := by decide +kernel

/-- HELD from a state, no fault active. -/
def heldFrom (st : PressState) (f : Press → Press) : State := demo .held fun pr => f { pr with prior := some st }

theorem wit_ResumeReturnsByPriorState_a : (demo .ready id).listening = true ∧ ((demo .ready id).press .p1).state ≠ .held ∧
    (faulted.press .p1).faults.active ≠ [] ∧ ((heldFrom .preheat id).press .p1).state = .held ∧
    ((heldFrom .preheat id).press .p1).faults.active = [] ∧ ((heldFrom .preheat id).press .p1).prior = some .preheat ∧
    ((heldFrom .ready fun pr => { pr with zones := [demoZone, { demoZone with primary := ⟨.ok, some 1000, 0⟩ }] }).allInBand .p1)
      = false ∧
    (heldFrom .ready id).allInBand .p1 = true ∧ ((heldFrom .ready id).press .p1).autoLoad = false ∧
    ((heldFrom .loading id).press .p1).level .loadedSw = false ∧ ((heldFrom .closing id).press .p1).level .closedSw = false ∧
    ((heldFrom .clearing id).press .p1).level .unloadedSw = false := by decide +kernel

/-- HELD from EJECTING with cavity 0 halted. -/
def halted : State := heldFrom .ejecting fun pr => { pr with
  eject := ⟨⟨.idle, .unused, .unused, .unused⟩, ⟨{ EjectCavity.cleared with state := .halted, stuck := true }, .cleared⟩⟩ }

theorem wit_ResumeReturnsByPriorState_b : (heldFrom .curing id).boundRecipe .p1 = some demoRecipe ∧
    (heldFrom .curing id).allComplete .p1 = false ∧
    (heldFrom .curing fun pr => { pr with cure := { pr.cure with
      cavities := ⟨{ CureCavity.cleared with complete := true }, .cleared⟩ } }).allComplete .p1 = true ∧
    ((heldFrom .opening id).press .p1).level .openSw = false ∧ halted.boundRecipe .p1 = some demoRecipe ∧
    Cavity.c0 ∈ cavitiesOf demoRecipe.header.cavities ∧ ((halted.press .p1).eject.cavities.get .c0).state = .halted ∧
    (halted.press .p1).level (partFree .c0) = false := by decide +kernel

theorem wit_ForceOpenMarksUndercured : (demo .ready id).listening = true ∧ ((demo .ready id).press .p1).state ≠ .curing ∧
    ((demo .ready id).press .p1).state ≠ .held ∧ ((heldFrom .opening id).press .p1).state ≠ .curing ∧
    ((heldFrom .opening id).press .p1).prior ≠ some .curing ∧ ((heldFrom .opening id).press .p1).prior ≠ some .closing ∧
    ((demo .curing id).press .p1).state = .curing ∧ ((demo .curing id).press .p1).level .openSw = false ∧
    ((heldFrom .curing id).press .p1).prior = some .curing ∧ ((heldFrom .curing id).press .p1).level .openSw = false ∧
    ((heldFrom .closing id).press .p1).prior = some .closing ∧ ((heldFrom .closing id).press .p1).level .openSw = false := by
  decide +kernel

theorem wit_AbortEndsTheCycle : (demo .idle id).listening = true ∧ ((demo .idle id).press .p1).state = .idle ∧
    ((demo .aborting id).press .p1).state = .aborting ∧ (State.reset.press .p1).state = .unconfigured ∧
    ((demo .preheat id).press .p1).run.state ≠ .running ∧ (logged.press .p1).state.inCycle = true ∧
    (logged.press .p1).run.state ≠ .running ∧ (logged.press .p1).level .openSw = false ∧
    ((heldFrom .opening fun pr => { pr with inputs := { pr.inputs with openSw := high } }).press .p1).level .openSw = true := by
  decide +kernel

theorem wit_GatesHoldsAndGuard_holds : (demo .idle id).listening = true ∧ ((demo .idle id).press .p1).configured = true ∧
    ((demo .idle id).press .p2).configured = false ∧ (1 : Byte).toNat ≤ 1 ∧ ((demo .idle id).press .p1).state ≠ .opening ∧
    ((demo .opening id).press .p1).state = .opening ∧ ((demo .opening id).press .p1).configured = true ∧
    4 < (5 : Byte).toNat := by decide +kernel

theorem wit_AutoSetsTheFlags : (demo .idle id).listening = true ∧ ((demo .idle id).press .p1).configured = true ∧
    ((demo .idle fun pr => { pr with autoLoad := true, autoOrder := true }).press .p1).autoLoad = true ∧
    ((demo .idle fun pr => { pr with autoLoad := true, autoOrder := true }).press .p1).autoOrder = true ∧
    ((scale .idle id).press .p1).autoOrder = false ∧ ((scale .idle id).press .p1).configured = true := by decide +kernel

theorem wit_TimersRunOut_dwell : demoRecipe.heat.readyDwell * 1000 ≤ 5000 ∧ (demo .preheat id).allInBand .p1 = true ∧
    (demo .preheat id).boundRecipe .p1 = some demoRecipe ∧
    ((demo .preheat fun pr => { pr with readyRun := some 5000 }).press .p1).readyRun = some 5000 ∧
    ((demo .preheat id).press .p1).autoLoad = false := by decide +kernel

theorem wit_TimersRunOut_timers :
    ((demo .loading fun pr => { pr with timers := { Timers.none with loadT := some 0 } }).press .p1).timers.get .loadT = some 0 ∧
    ((demo .closing fun pr => { pr with timers := { Timers.none with closeT := some 0 } }).press .p1).timers.get .closeT = some 0 ∧
    ((demo .closing id).press .p1).motionInhibit = false ∧
    ((demo .opening fun pr => { pr with timers := { Timers.none with openT := some 0 } }).press .p1).timers.get .openT = some 0 ∧
    ((demo .opening id).press .p1).motionInhibit = false ∧
    ((demo .clearing fun pr => { pr with timers := { Timers.none with clearT := some 0 } }).press .p1).timers.get .clearT = some 0 ∧
    ((demo .aborting fun pr => { pr with timers := { Timers.none with openT := some 0 } }).press .p1).timers.openT = some 0 ∧
    ((demo .aborting id).press .p1).config = some demoConfig ∧ ((demo .aborting id).press .p1).motionInhibit = false := by
  decide +kernel

/-- The cure timer of a press run out with its one cavity complete. -/
theorem wit_TimersRunOut_complete :
    let s := demo .curing fun pr => { pr with cure := { pr.cure with
      state := .running, timer := .running 0, cavities := ⟨{ CureCavity.cleared with complete := true }, .cleared⟩ } }
    s.boundRecipe .p1 = some demoRecipe ∧ (s.press .p1).cure.state = .running ∧ (s.press .p1).cure.timer = .running 0 ∧
    (∀ c ∈ cavitiesOf demoRecipe.header.cavities, ((s.press .p1).cure.cavities.get c).complete = true) := by decide +kernel

/-- The demo press with every filter time at its longest and one input rising. -/
def slow (st : PressState) (i : Inputs → Inputs) : State :=
  { demo st (fun pr => { pr with inputs := i pr.inputs }) with
    pressFilter := 100, weigh := { State.reset.weigh with filter := 100, tray := rising } }

theorem wit_InputsPassTheFilter_press : (slow .idle id).pressFilter ≠ 0 ∧
    (((slow .idle fun i => { i with openSw := ⟨true, 99, false⟩ }).press .p1).inputs.get .openSw).stable < 100 ∧
    (((slow .idle id).press .p1).inputs.get .openSw).raw = ((slow .idle id).press .p1).level .openSw ∧
    100 ≤ (((slow .held fun i => { i with openSw := rising }).press .p1).inputs.get .openSw).stable ∧
    (((slow .held fun i => { i with openSw := rising }).press .p1).inputs.get .openSw).raw
      ≠ ((slow .held fun i => { i with openSw := rising }).press .p1).level .openSw := by decide +kernel

theorem wit_InputsPassTheFilter_tray : (slow .idle id).weigh.filter ≠ 0 ∧ State.reset.weigh.tray.raw = State.reset.weigh.tray.accepted ∧
    (slow .idle id).weigh.filter ≤ (slow .idle id).weigh.tray.stable ∧
    (slow .idle id).weigh.tray.raw ≠ (slow .idle id).weigh.tray.accepted ∧ (slow .idle id).orders = [] ∧
    (slow .idle id).weigh.build = none ∧ (slow .idle id).weigh.state ≠ .unloading ∧
    (scale .idle fun w => { w with tray := rising }).weigh.state = .idle ∧
    (scale .idle fun w => { w with tray := rising }).weigh.filter ≤ 100 := by decide +kernel

/-- The tray taken off after an attempt, an order waiting. -/
def unloaded : State :=
  { scale .unloading (fun w => { w with tray := ⟨false, 100, true⟩ }) with orders := [⟨7, .p1, .c0, ⟨57, 1⟩, 1⟩] }

theorem wit_InputsPassTheFilter_unloading : unloaded.weigh.filter ≤ unloaded.weigh.tray.stable ∧ unloaded.weigh.tray.raw = false ∧
    unloaded.weigh.tray.accepted = true ∧ unloaded.weigh.state = .unloading := by decide +kernel

/-- R139, R134: the station waits in IDLE with the order in its queue, and the tray put on again starts the next attempt. -/
theorem test_tray_off_and_on :
    let s := ran (exec .trayPresentAccepted unloaded)
    s.weigh.state = .idle ∧ s.orders.length = 1 ∧ s.weigh.build = none ∧
    (ran (exec (.trayPresentRawChange true) s)).weigh.build.map (fun b => (b.order, b.attempt)) = some (7, 2) := by decide +kernel

theorem wit_InputsPassTheFilter_atOnce : (demo .loading id).pressFilter = 0 ∧ (scale .idle id).weigh.filter = 0 := by decide +kernel

theorem wit_InputsMoveTheCycle_a :
    0 ≤ (((slow .loading fun i => { i with loadedSw := rising }).press .p1).inputs.get .loadedSw).stable ∧
    100 ≤ (((slow .loading fun i => { i with loadedSw := rising }).press .p1).inputs.get .loadedSw).stable ∧
    (((slow .loading fun i => { i with loadedSw := rising }).press .p1).inputs.get .loadedSw).raw = true ∧
    ((slow .loading fun i => { i with loadedSw := rising }).press .p1).level .loadedSw = false ∧
    ((slow .loading fun i => { i with loadedSw := rising }).press .p1).level .closedSw = false ∧
    ((slow .closing fun i => { i with closedSw := rising }).press .p1).level .closedSw = false ∧
    (slow .closing id).boundRecipe .p1 = some demoRecipe ∧
    ((slow .opening fun i => { i with openSw := rising }).press .p1).level .openSw = false ∧
    (∃ c ∈ cavitiesOf demoRecipe.header.cavities, ((slow .opening id).press .p1).level (partFree c) = false) := by decide +kernel

theorem wit_InputsMoveTheCycle_b :
    ((slow .clearing fun i => { i with unloadedSw := rising }).press .p1).level .unloadedSw = false ∧
    ((slow .clearing id).press .p1).pendingBinding = none ∧ ((slow .clearing id).press .p1).autoLoad = false ∧
    ((slow .aborting fun i => { i with openSw := rising }).press .p1).level .openSw = false ∧
    ((slow .aborting id).press .p1).pendingBinding = none ∧ ((ejecting 1 5).press .p1).state = .ejecting ∧
    ((ejecting 1 5).press .p1).level (partFree .c0) = false ∧ Cavity.c0 ∈ cavitiesOf demoRecipe.header.cavities ∧
    (((ejecting 1 5).press .p1).eject.cavities.get .c0).state = .attempting := by decide +kernel

/-- An OPEN record of press 1 with a cure in hand. -/
def cureRecord : PartRecord :=
  { PartRecord.reserve 5 .p1 .c0 ⟨57, 1⟩ 0 with
    cure := some ⟨some 0, none, none, none, 0, [], false, none, false, false, false⟩ }

/-- Press 1 in OPENING with OPEN rising, the part free or not, and an OPEN record. -/
def demoulding (free : Bool) : State :=
  { slow .opening (fun i => { i with openSw := rising, partFree0 := ⟨free, 100, free⟩ }) with history := ⟨[cureRecord], some 6⟩ }

/-- Press 1 in EJECTING with an OPEN record whose demould summary is behind the ejection items. -/
def demoulded (attempts timer : Nat) : State :=
  { ejecting attempts timer with history := ⟨[{ cureRecord with demould := some ⟨0, none, 0, none, false⟩ }], some 6⟩ }

theorem wit_InputsMoveTheCycle_demould : ((demoulding true).press .p1).level .openSw = false ∧
    (demoulding true).boundRecipe .p1 = some demoRecipe ∧ ((demoulding true).press .p1).level .unloadedSw = false ∧
    (∀ c ∈ cavitiesOf demoRecipe.header.cavities, ((demoulding true).press .p1).level (partFree c) = true) ∧
    (∃ c ∈ cavitiesOf demoRecipe.header.cavities, ((demoulding false).press .p1).level (partFree c) = false) ∧
    (demoulding false).history.records[0]? = some cureRecord ∧ cureRecord.press = .p1 ∧ cureRecord.close = none ∧
    (demoulded 1 5).history.records[0]? = some { cureRecord with demould := some ⟨0, none, 0, none, false⟩ } := by decide +kernel

/-- The demould summary of the first record after a command. -/
def demouldOf (r : Result) : Option Demould := ((ran r).history.records[0]?).bind fun x => x.demould

/-- R159, R160, R162, R166: the summary at the entry to EJECTING, with the part free and not, and at a stuck part. -/
theorem test_demould_summary :
    demouldOf (exec (.pressInputAccepted .p1 .openSw) (demoulding true)) = some ⟨0, some 0, 0, none, false⟩ ∧
    (demouldOf (exec (.pressInputAccepted .p1 .openSw) (demoulding false))).map (fun d => (d.totalAttempts, d.releaseTime, d.totalStrokes))
      = some (1, none, 1) ∧
    (demouldOf (exec (.attemptTimerExpiry .p1 .c0) (demoulded 4 0))).map (fun d => d.stuck) = some true := by decide +kernel

/-- Press 1 with a charge under the recipe it leaves, a binding pending, and UNLOADED or OPEN rising. -/
def rebound (st : PressState) : State :=
  demo st fun pr => { pr with
    bound := some ⟨58, 1⟩, pendingBinding := some ⟨57, 1⟩, staging := ⟨[{ demoCharge with recipe := ⟨58, 1⟩ }], []⟩
    inputs := { pr.inputs with unloadedSw := rising, openSw := rising } }

theorem wit_InputsMoveTheCycle_pending : ((rebound .clearing).press .p1).pendingBinding = some ⟨57, 1⟩ ∧
    ((rebound .clearing).press .p1).state = .clearing ∧ ((rebound .clearing).press .p1).level .unloadedSw = false ∧
    ((rebound .aborting).press .p1).state = .aborting ∧ ((rebound .aborting).press .p1).level .openSw = false ∧
    ((rebound .clearing).press .p1).heatMode = .run ∧ (rebound .clearing).recipes.find 57 = some demoRecipe ∧
    demoRecipe.ramp = none := by decide +kernel

/-- R38, R45, R46: the pending binding is applied at either binding point. -/
theorem test_binding_points :
    let a := press1 (exec (.pressInputAccepted .p1 .unloadedSw) (rebound .clearing))
    let b := press1 (exec (.pressInputAccepted .p1 .openSw) (rebound .aborting))
    a.state = .preheat ∧ a.bound = some ⟨57, 1⟩ ∧ a.staging = ⟨[], []⟩ ∧ b.state = .idle ∧ b.heatMode = .standby ∧
    b.bound = some ⟨57, 1⟩ := by decide +kernel

theorem wit_GatesHoldsAndGuard_guard : ((demo .closing id).press .p1).closeCmd = true ∧
    ((demo .opening id).press .p1).openCmd = true ∧ ((ejecting 1 5).press .p1).ejectOut .ch0 = true ∧
    (((demo .curing fun pr => { pr with inputs := { pr.inputs with guard := ⟨false, 100, true⟩ } }).press .p1).inputs.get .guard)
      = ⟨false, 100, true⟩ ∧
    ((demo .curing id).press .p1).faults.quiet.contains .guardLost = false ∧
    (demo .curing id).events.disabled.contains .fault = false ∧ (demo .curing id).events.queue.length < 64 := by decide +kernel

/-- A scan at a position, the sensors of zone 0 given. -/
def scanAt (n : Nat) (a b : Sensor) : State :=
  demo .ready fun pr => { pr with streamPos := some n, zones := [{ demoZone with primary := a, spare := b }, demoZone] }

theorem wit_ReadingsAreJudged :
    let s := scanAt 1 ⟨.ok, some 1500, 0⟩ ⟨.doubtful, some 1500, 2⟩
    (s.press .p1).configured = true ∧ (s.press .p1).streamPos = some 1 ∧ 1 < (s.press .p1).positions ∧
    (s.press .p1).zones[1 / 2]? = some { demoZone with primary := ⟨.ok, some 1500, 0⟩, spare := ⟨.doubtful, some 1500, 2⟩ } ∧
    (s.press .p1).run.state ≠ .running ∧ (∀ d ∈ (s.press .p1).run.discard, d.1 ≠ posAt 1) ∧ (s.press .p1).faults.first = none ∧
    (1500 - 300 : Int) ≤ 1200 ∧ (1800 : Int) ≤ 1500 + 300 ∧ ((1500 : Int) + 300 < 1801) ∧ (1199 : Int) < 1500 - 300 := by
  decide +kernel

/-- A FAILED sensor, an unfitted position and a discarded one, in the middle of a scan; a run may be in progress there. -/
theorem wit_ReadingsAreJudged_kept :
    let s := scanAt 1 ⟨.ok, some 1500, 0⟩ ⟨.failed, some 1500, 3⟩
    let u := demo .ready fun pr => { pr with streamPos := some 3, zones := [demoZone, { demoZone with spareFitted := false, spare := .absent }] }
    let d := s.updPress .p1 fun pr => { pr with run := { pr.run with state := .running, discard := [(⟨0, .spare⟩, 1)] } }
    (s.press .p1).configured = true ∧ (s.press .p1).streamPos = some 1 ∧ 1 + 1 < (s.press .p1).positions ∧
    ((s.press .p1).sensorAt (posAt 1)).state = .failed ∧ (u.press .p1).streamPos = some 3 ∧ 3 < (u.press .p1).positions ∧
    (u.press .p1).run.state ≠ .running ∧ (u.press .p1).fittedAt (posAt 3) = false ∧
    (d.press .p1).run.discard.any (fun e => e.1 == posAt 1) = true := by decide +kernel

/-- R62: a good reading does not bring a FAILED sensor back. -/
theorem test_failed_stays : (press1 (exec (.temperatureReading .p1 (.value 1500))
    (scanAt 1 ⟨.ok, some 1500, 0⟩ ⟨.failed, some 1500, 3⟩))).sensorAt ⟨0, .spare⟩ = ⟨.failed, some 1500, 3⟩ := by decide +kernel

/-- A scan in PREHEAT or READY with the spare of zone 0 next, that zone with the primary FAILED and so on its spare. -/
def onSpare (st : PressState) (g : Option Int) : State :=
  demo st fun pr => { pr with
    streamPos := some 1, readyRun := if st = .preheat then some 700 else none
    zones := [{ demoZone with primary := ⟨.failed, none, 3⟩, spare := ⟨.doubtful, g, 0⟩, hold := .running 9 }, demoZone] }

/-- The band of the recipe is 50 about 1500; zone 0 comes into band, leaves it, and loses its value. -/
theorem wit_TimersRunOut_band : ((onSpare .preheat none).press .p1).state = .preheat ∧ ((onSpare .ready none).press .p1).state = .ready ∧
    (onSpare .ready none).boundRecipe .p1 = some demoRecipe ∧ ((onSpare .ready none).press .p1).run.state ≠ .running ∧
    ((onSpare .ready none).press .p1).streamPos = some (2 * 0 + 1) ∧ 2 * 0 + 1 < ((onSpare .ready none).press .p1).positions ∧
    (onSpare .ready none).events.disabled = [] ∧ (ran (exec (.temperatureReading .p1 (.value 1550)) (onSpare .ready none))).allInBand .p1 = true ∧
    (ran (exec (.temperatureReading .p1 (.value 1551)) (onSpare .ready none))).allInBand .p1 = false := by decide +kernel

/-- R29, R30, R92: a value in band starts the ready run, or lets it go on, and READY stands; out of band, and blind, the run is
cancelled and READY goes to PREHEAT; the source ends the blind hold. -/
theorem test_band :
    let a := press1 (exec (.temperatureReading .p1 (.value 1550)) (onSpare .preheat none))
    let b := press1 (exec (.temperatureReading .p1 (.value 1551)) (onSpare .preheat (some 1500)))
    let c := press1 (exec (.temperatureReading .p1 (.value 1449)) (onSpare .ready (some 1500)))
    let d := press1 (exec (.temperatureReading .p1 .errCode) (onSpare .ready none))
    a.readyRun = some 700 ∧ a.zones[0]?.map (fun z => z.hold) = some .stopped ∧ b.state = .preheat ∧ b.readyRun = none ∧
    c.state = .preheat ∧ d.state = .preheat ∧
    (press1 (exec (.temperatureReading .p1 (.value 1450)) (onSpare .ready (some 1500)))).state = .ready := by decide +kernel

theorem wit_ScansOpenAndFallDue : (State.reset.press .p1).configured = false ∧ ((demo .ready id).press .p1).configured = true ∧
    ((demo .ready id).press .p1).streamPos = none ∧ ((demo .ready id).press .p1).run.state ≠ .running ∧
    (proveDemo.press .p1).run.state = .running ∧ (proveDemo.press .p1).run.params.isSome = true ∧
    (proveDemo.press .p1).streamPos = none ∧ (State.reset.press .p1).overdue ≠ some 0 ∧
    ((demo .ready id).press .p1).overdue = some 0 ∧ ((demo .ready id).press .p1).fittedAt ⟨0, .primary⟩ = true ∧
    ((scanAt 0 ⟨.doubtful, none, 2⟩ ⟨.ok, some 1500, 1⟩).press .p1).sensorAt ⟨0, .primary⟩ = ⟨.doubtful, none, 2⟩ ∧
    ((scanAt 0 ⟨.doubtful, none, 2⟩ ⟨.ok, some 1500, 1⟩).press .p1).sensorAt ⟨0, .spare⟩ = ⟨.ok, some 1500, 1⟩ := by
  decide +kernel

/-- A marker with the spare of zone 0 next in the open scan: the last two positions of the grid are left as well. -/
theorem wit_ScansOpenAndFallDue_inside :
    let s := scanAt 1 ⟨.ok, some 1500, 0⟩ ⟨.doubtful, some 1500, 2⟩
    (s.press .p1).configured = true ∧ (s.press .p1).streamPos = some 1 ∧ (s.press .p1).run.state ≠ .running ∧
    (s.press .p1).positions = 4 ∧ (s.press .p1).run.discard = [] ∧
    ([1, 2, 3].all fun m => (s.press .p1).fittedAt (posAt m)) = true ∧
    ((s.press .p1).sensorAt (posAt 1)).state = .doubtful ∧ 2 ≤ ((s.press .p1).sensorAt (posAt 1)).bad ∧
    ((s.press .p1).sensorAt (posAt 3)).state = .ok ∧ ((s.press .p1).sensorAt (posAt 3)).bad < 2 := by decide +kernel

/-- R59: the marker closes the scan with ERR for the positions 1 to 3. -/
theorem test_marker_inside :
    let a := press1 (exec (.scanMarker .p1) (scanAt 1 ⟨.ok, some 1500, 0⟩ ⟨.doubtful, some 1500, 2⟩))
    (a.sensorAt ⟨0, .primary⟩).state = .ok ∧ (a.sensorAt ⟨0, .spare⟩).state = .failed ∧
    a.sensorAt ⟨1, .spare⟩ = ⟨.doubtful, some 1500, 1⟩ := by decide +kernel

/-- The spare of zone 0 read next, the condition and the counts of the zone given, both sensors at 1500. -/
def compareDemo (m : Bool) (r a : Nat) : State :=
  demo .idle fun pr => { pr with
    streamPos := some 1, zones := [{ demoZone with mismatch := m, mismatchRun := r, agreeRun := a }, demoZone] }

/-- R67: the band is 50: 1450 and 1550 agree, 1449 and 1551 differ; the tenth in a row tells. -/
theorem wit_SensorsAreCompared : ((compareDemo false 9 0).press .p1).config = some demoConfig ∧
    ((compareDemo false 9 0).press .p1).configured = true ∧
    ((compareDemo false 9 0).press .p1).zones[0]? = some { demoZone with mismatchRun := 9 } ∧
    ((compareDemo false 9 0).press .p1).run.state ≠ .running ∧
    (∀ d ∈ ((compareDemo false 9 0).press .p1).run.discard, d.1.zone ≠ 0) ∧
    ((compareDemo false 9 0).press .p1).streamPos = some (2 * 0 + 1) ∧ demoZone.spareFitted = true ∧
    demoZone.spare.state = .ok ∧ demoZone.primary.state = .ok ∧ demoZone.primary.lastGood = some 1500 ∧
    (1500 - 300 : Int) ≤ 1449 ∧ (1551 : Int) ≤ 1500 + 300 ∧ demoConfig.mismatchBand < (1500 : Int) - 1449 ∧
    demoConfig.mismatchBand < (1551 : Int) - 1500 ∧ (1500 : Int) - 1450 ≤ demoConfig.mismatchBand ∧
    ((compareDemo false 9 0).press .p1).state ≠ .preheat ∧ ((compareDemo false 9 0).press .p1).state ≠ .ready ∧
    (1500 : Int) + 300 < 1801 ∧ ((compareDemo false 9 0).press .p1).overdue = some 0 ∧ demoZone.primaryFitted = true := by
  decide +kernel

/-- What a comparison leaves of the condition and the counts of zone 0. -/
def compared (r : Result) : Option (Bool × Nat × Nat) := (zone0 r).map fun z => (z.mismatch, z.mismatchRun, z.agreeRun)

/-- R67: the tenth differing comparison, the first nine, an agreeing one, the tenth agreeing one, and a bad reading. -/
theorem test_mismatch :
    compared (exec (.temperatureReading .p1 (.value 1449)) (compareDemo false 9 0)) = some (true, 0, 0) ∧
    compared (exec (.temperatureReading .p1 (.value 1449)) (compareDemo false 8 0)) = some (false, 9, 0) ∧
    compared (exec (.temperatureReading .p1 (.value 1450)) (compareDemo false 8 0)) = some (false, 0, 0) ∧
    compared (exec (.temperatureReading .p1 (.value 1450)) (compareDemo true 0 9)) = some (false, 0, 0) ∧
    compared (exec (.temperatureReading .p1 .errCode) (compareDemo true 0 9)) = some (true, 0, 0) := by decide +kernel

theorem wit_RestoreSensorRestores : (demo .ready id).listening = true ∧ (State.reset.press .p1).configured = false ∧
    ((demo .ready id).press .p1).zoneCount ≤ (2 : Byte).toNat ∧ (1 : Byte).toNat < ((demo .ready id).press .p1).zoneCount ∧
    ((demo .ready fun pr => { pr with zones := [{ demoZone with spareFitted := false, spare := .absent }] }).press .p1).fittedAt
      ⟨0, .spare⟩ = false ∧
    (ran (exec .replyComplete proveDemo)).listening = true ∧ (proveDemo.press .p1).fittedAt ⟨0, .spare⟩ = true ∧
    ((proveDemo.press .p1).sensorAt ⟨0, .spare⟩).state = .proving ∧ (((demo .ready id).press .p1).sensorAt ⟨0, .spare⟩).state = .ok ∧
    (((scanAt 0 ⟨.failed, none, 3⟩ ⟨.ok, some 1500, 1⟩).press .p1).sensorAt ⟨0, .primary⟩).state = .failed ∧
    4 < (5 : Byte).toNat := by decide +kernel

theorem wit_ProvingRunsStartAndStop : (demo .idle id).listening = true ∧ ((demo .idle id).press .p1).state = .idle ∧
    ((demo .idle id).press .p1).run.state ≠ .running ∧ ((demo .idle id).press .p1).zoneCount ≤ 24 ∧
    ([⟨1, .spare⟩, ⟨0, .primary⟩] : List SensorPos).Nodup ∧
    (∀ k ∈ ([⟨1, .spare⟩, ⟨0, .primary⟩] : List SensorPos), k.zone < ((demo .idle id).press .p1).zoneCount ∧
      ((demo .idle id).press .p1).fittedAt k = true) ∧
    (ran (exec .replyComplete proveDemo)).listening = true ∧ ((ran (exec .replyComplete proveDemo)).press .p1).run.state = .running ∧
    ((ran (exec .replyComplete proveDemo)).press .p1).run.selection = [⟨0, .spare⟩] := by decide +kernel

/-- A proving run that takes the last source of a zone of a press in READY; and a run with a failing sensor that is stopped. -/
theorem wit_ProvingRunsStartAndStop_ready :
    let s := onSpare .ready (some 1500)
    let f := proveDemo.updPress .p1 fun pr => { pr with run := { pr.run with failing := [⟨0, .spare⟩] } }
    let t := ran (exec (.proveStart (provePayload .p1 [⟨0, .spare⟩] [0, 1, 2, 3] 1 1 false false)) s)
    (s.press .p1).state = .ready ∧ (s.press .p1).zones[0]?.map Zone.source = some .spare ∧
    (s.press .p1).zones[0]?.map (fun z => z.hold) = some (.running 9) ∧ (t.press .p1).zones[0]?.map Zone.source = some .none ∧
    (t.press .p1).zones[0]?.map (fun z => z.hold) = some .stopped ∧ (t.press .p1).state = .preheat ∧
    (f.press .p1).run.failing ≠ [] ∧ (f.press .p1).state = .idle ∧ (f.press .p1).autoLoad = false ∧ f.events.disabled = [] := by
  decide +kernel

/-- R77: PROVE_FAIL, then PROVE_DONE with STOPPED. -/
theorem test_prove_stop_events :
    let f := (ran (exec .replyComplete proveDemo)).updPress .p1 fun pr => { pr with run := { pr.run with failing := [⟨0, .spare⟩] } }
    ((ran (exec (.proveStop [1]) f)).events.queue.drop 1).map (fun e => e.detail)
      = [.fault .proveFail .degrade .none, .run .stopped] := by decide +kernel

/-- A run over one spare sensor at a position of the scan and an index of the pattern, one loop to do. -/
def runDemo (st : PressState) (n index : Nat) (stop : Bool) (pos : SensorPos) : State :=
  demo st fun pr => { pr with
    streamPos := some n
    zones := pr.zones.mapIdx fun i z => if i = pos.zone then { z with spare := ⟨.proving, none, 0⟩ } else z
    run := { pr.run with
      state := .running, params := some ⟨[pos], [0, 500, 1000, 1500], 20, 1, false, stop⟩, inScan := true, index := index } }

/-- R74, R75: with no run in progress an overdue ERR of a sensor left PROVING compares with nothing and ends nothing. -/
theorem test_no_run_no_comparison :
    let s := (runDemo .idle 1 1 true ⟨0, .spare⟩).updPress .p1 fun pr => { pr with run := { pr.run with state := .stopped } }
    (press1 (exec (.overdueExpiry .p1) s)).run.state = .stopped ∧
    (press1 (exec (.overdueExpiry .p1) s)).sensorAt ⟨0, .primary⟩ = ⟨.doubtful, some 1500, 1⟩ := by decide +kernel

theorem wit_ProvingRunsGoOnAndEnd_mid :
    let s := runDemo .idle 1 1 false ⟨0, .spare⟩
    (s.press .p1).run.state = .running ∧ (s.press .p1).configured = true ∧ (s.press .p1).run.inScan = true ∧
    (s.press .p1).streamPos = some 1 ∧ 1 < (s.press .p1).positions ∧ posAt 1 = ⟨0, .spare⟩ ∧
    (s.press .p1).fittedAt (posAt 1) = true ∧ ((s.press .p1).sensorAt (posAt 1)).state = .proving ∧
    (∀ d ∈ (s.press .p1).run.discard, d.1 ≠ posAt 1) ∧ 1 + 1 < (s.press .p1).positions ∧
    (520 : Int) - 500 ≤ 20 ∧ ¬((521 : Int) - 500 ≤ 20) ∧ (s.press .p1).overdue = some 0 ∧ (s.press .p1).autoLoad = false := by
  decide +kernel

theorem wit_ProvingRunsGoOnAndEnd_last :
    let s := runDemo .ready 3 3 true ⟨1, .spare⟩
    (s.press .p1).run.state = .running ∧ (s.press .p1).streamPos = some 3 ∧ 3 + 1 = (s.press .p1).positions ∧
    posAt 3 = ⟨1, .spare⟩ ∧ (s.press .p1).fittedAt (posAt 3) = true ∧ ((s.press .p1).sensorAt (posAt 3)).state = .proving ∧
    (s.press .p1).run.index = 3 ∧ (s.press .p1).run.loopsDone + 1 = 1 ∧ (s.press .p1).autoLoad = false ∧ s.listening = true ∧
    (s.press .p1).state = .ready ∧ ((runDemo .idle 3 3 true ⟨1, .spare⟩).press .p1).state = .idle := by decide +kernel

/-- R75 to R78: the last reading of the last loop passes the run or fails it, and an ABORT ends it without judgement. -/
theorem test_run_ends :
    let s := runDemo .idle 3 3 false ⟨1, .spare⟩
    (press1 (exec (.temperatureReading .p1 (.value 1480)) s)).run.state = .passed ∧
    (press1 (exec (.temperatureReading .p1 (.value 1479)) s)).run.state = .failed ∧
    ((press1 (exec (.temperatureReading .p1 (.value 1479)) s)).sensorAt ⟨1, .spare⟩) = ⟨.failed, none, 3⟩ ∧
    (press1 (exec (.abort [1]) (runDemo .ready 3 3 false ⟨1, .spare⟩))).run.state = .aborted := by decide +kernel

theorem wit_ControlTickAppliesTheLaw : ((demo .ready id).press .p1).nextTick = some 0 ∧
    ((demo .ready id).press .p1).config = some demoConfig ∧ ((demo .ready id).press .p1).heatMode ≠ .off ∧
    ((demo .ready id).press .p1).zones[1]? = some demoZone ∧ demoZone.value = some 1500 ∧
    (demo .ready id).setpoint .p1 1 = some 1500 ∧ (demo .ready id).rampOf .p1 = none ∧
    ({ demo .ready id with recipes := ⟨[.valid { demoRecipe with ramp := some 100 }], none⟩ } : State).rampOf .p1 = some 100 ∧
    demoZone.spe = some 1500 ∧ ((demo .ready id).press .p1).heatInhibit = false := by decide +kernel

/-- A zone at one above its setpoint and overtemperature band of 100, the press with an OPEN record. -/
def hotDemo (v : Int) : State :=
  { demo .curing (fun pr => { pr with zones := [demoZone, { demoZone with primary := ⟨.ok, some v, 0⟩ }] }) with
    history := ⟨[cureRecord], some 6⟩ }

theorem wit_ControlTickAppliesTheLaw_hot :
    ((hotDemo 1601).press .p1).zones[1]? = some { demoZone with primary := ⟨.ok, some 1601, 0⟩ } ∧
    ({ demoZone with primary := ⟨.ok, some 1601, 0⟩ } : Zone).value = some 1601 ∧ (hotDemo 1601).setpoint .p1 1 = some 1500 ∧
    ((hotDemo 1601).press .p1).faults.quiet = [] ∧ (hotDemo 1601).events.disabled = [] ∧
    (hotDemo 1601).history.records[0]? = some cureRecord ∧
    (press1 (exec (.controlTick .p1) (hotDemo 1601))).zones[1]?.map (fun z => z.hot) = some true ∧
    (press1 (exec (.controlTick .p1) (hotDemo 1600))).zones[1]?.map (fun z => z.hot) = some false := by decide +kernel

/-- R89: ZONE_HOT of zone 1 is logged, queued and written into the record. -/
theorem test_zone_hot :
    let s := ran (exec (.controlTick .p1) (hotDemo 1601))
    (s.press .p1).faults.first.map (fun f => (f.code, f.qual)) = some (.zoneHot, .zone 1) ∧
    (s.history.records.map fun x => x.faults) = [[.zoneHot]] ∧
    s.events.queue.getLast?.map (fun e => e.detail) = some (.fault .zoneHot .degrade (.zone 1)) ∧
    (press1 (exec (.controlTick .p1) (hotDemo 1600))).faults.first = none := by decide +kernel

/-- A zone with no usable sensor, the hold and the state of its primary given. -/
def blind (h : BlindHold) (st : SensorState) : Zone :=
  { demoZone with primary := ⟨st, none, 0⟩, spare := ⟨.failed, none, 3⟩, hold := h }

theorem wit_ControlTickOtherZones : ((demo .ready id).press .p1).config = some demoConfig ∧
    (State.reset.press .p1).nextTick ≠ some 0 ∧ ((demo .ready id).press .p1).nextTick = some 0 ∧
    ({ demoZone with primary := ⟨.ok, some 3201, 0⟩ } : Zone).value = some 3201 ∧
    ((demo .idle fun pr => { pr with heatMode := .off }).press .p1).heatMode = .off ∧
    (blind .stopped .proving).provingBlind = true ∧ (blind .stopped .failed).provingBlind = false ∧
    (blind .stopped .failed).source = .none ∧ demoConfig.holdLimit ≠ 0 ∧ leastConfig.holdLimit = 0 ∧
    (blind (.running 1) .failed).hold = .running 1 ∧ (blind .expired .failed).hold = .expired ∧
    (blind (.running 0) .failed).hold = .running 0 ∧ demoZone.hold ≠ .running 0 ∧
    ((demo .ready fun pr => { pr with zones := [blind (.running 0) .failed] }).press .p1).zones[0]?
      = some (blind (.running 0) .failed) := by decide +kernel

/-- Press 1 in CURING with demand, the round due, press 2 unconfigured. -/
def roundDemo (limit short : Nat) : State :=
  { demo .curing (fun pr => { pr with shortfall := short, zones := pr.zones.map fun z => { z with demand := 1000 } }) with
    feed := { Feed.initial with configured := limit, nextRound := 0 } }

theorem wit_RoundSharesByClass : (roundDemo 2999 9).feed.nextRound = 0 ∧
    (((roundDemo 2999 9).press .p1).configured = true) ∧ ((roundDemo 2999 9).press .p2).configured = false ∧
    ((press1 (exec .allocationRound (roundDemo 2999 9))).feedClass = .one) ∧
    (ran (exec .allocationRound (roundDemo 2999 9))).feed.class1.scaled = true ∧ ((roundDemo 2999 9).press .p1).shortfall = 9 ∧
    ((roundDemo 2999 8).press .p1).shortfall < 9 := by decide +kernel

/-- The tenth short round in a row of press 1, with one OPEN record of it in the log. -/
def tenthShort : State :=
  { roundDemo 2999 9 with history := ⟨[PartRecord.reserve 5 .p1 .c0 ⟨57, 1⟩ 0], some 6⟩ }

theorem wit_RoundSharesByClass_short : tenthShort.feed.nextRound = 0 ∧ (tenthShort.press .p1).configured = true ∧
    9 ≤ (tenthShort.press .p1).shortfall ∧ (press1 (exec .allocationRound tenthShort)).feedClass = .one ∧
    (ran (exec .allocationRound tenthShort)).feed.class1.scaled = true ∧
    0 < ((press1 (exec .allocationRound tenthShort)).zones.map fun z => z.request).sum ∧
    (∀ x ∈ tenthShort.history.records, x.close = none ∧ x.press = .p1) ∧
    (tenthShort.press .p1).faults.quiet.contains .feedShort = false ∧ tenthShort.events.disabled.contains .fault = false ∧
    tenthShort.events.queue.length ≤ 60 := by decide +kernel

/-- R105, R176: the advisory is reported once and marks the OPEN record; at the ninth round nothing is raised. -/
theorem test_feed_short :
    ((ran (exec .allocationRound tenthShort)).history.records.map fun x => (x.faults, x.feedShortMark)) = [([.feedShort], true)] ∧
    (ran (exec .allocationRound tenthShort)).events.queue.length = 2 ∧
    (ran (exec .allocationRound (roundDemo 2999 8))).events.queue.length = 1 := by decide +kernel

/-- Press 1 with a duty of 500 on both zones, in a heat mode. -/
def dutyDemo (st : PressState) (m : HeatMode) : State :=
  demo st fun pr => { pr with heatMode := m, zones := pr.zones.map fun z => { z with duty := 500 } }

theorem wit_DriveStreamCarriesChanges : (dutyDemo .ready .run).listening = true ∧
    ((dutyDemo .ready .run).press .p1).configured = true ∧ ((dutyDemo .ready .run).press .p2).configured = false ∧
    ((dutyDemo .ready .run).press .p1).heatInhibit = false ∧ ((dutyDemo .ready .run).press .p1).heatMode ≠ .off ∧
    (∃ z ∈ ((dutyDemo .ready .run).press .p1).zones, z.duty ≠ 0) ∧ (roundDemo 2999 9).feed.nextRound = 0 ∧
    ((dutyDemo .idle .standby).press .p1).state = .idle ∧
    ((dutyDemo .idle .standby).press .p1).config = some demoConfig ∧
    ((dutyDemo .idle .standby).press .p1).run.state ≠ .running ∧ demoConfig.rows ≠ mostConfig.rows ∧
    (∃ z ∈ ((dutyDemo .idle .standby).press .p1).zones, ((dutyDemo .idle .standby).press .p1).driveDuty z ≠ 0) ∧
    (∀ z ∈ ((dutyDemo .idle .off).press .p1).zones, ((dutyDemo .idle .off).press .p1).driveDuty z = 0) := by decide +kernel

/-- R93, R94: a change of zone 1 alone is sent alone, in one transfer; a change of no drive duty sends nothing. -/
theorem test_drive_stream :
    let pr := (dutyDemo .ready .run).press .p1
    (driveTransfer pr { pr with zones := pr.zones.mapIdx fun i z => { z with duty := 500 + i } }) = [.duties [(1, 501)]] ∧
    driveTransfer pr { pr with autoLoad := true } = [] ∧ driveTransfer pr { pr with hostHeat := true } = [.duties [(0, 0), (1, 0)]] ∧
    (press1 (exec (.cellReset []) (dutyDemo .ready .run))).drive = pr.drive ++ [.duties [(0, 0), (1, 0)]] := by decide +kernel

theorem wit_CureRateInterpolates : demoRates.length = 16 ∧ demoRates.Pairwise (fun a b => a.1 < b.1) ∧
    (∀ x ∈ demoRates, x.2 ≤ 65535) ∧ demoRates[0]? = some (1000, 0) ∧ (1000 : Int) ≤ 1000 ∧
    demoRates[15]? = some (2000, 1430) ∧ demoRates[14]? = some (1900, 1500) := by decide +kernel

/-- A cure with its tick due, the dose of both zones given. -/
def cureDemo (dose : Nat) (f : Cure → Cure) : State :=
  demo .curing fun pr => { pr with
    zones := pr.zones.map fun z => { z with dose := dose }
    cure := f { pr.cure with state := .running, timer := .running 0, closedTime := some 0, nextTick := some 0 } }

theorem wit_CureTickGathersDose : ((cureDemo 0 id).press .p1).cure.state = .running ∧
    ((cureDemo 0 id).press .p1).cure.nextTick = some 0 ∧ (cureDemo 0 id).boundRecipe .p1 = some demoRecipe ∧
    ((cureDemo 0 id).press .p1).level .openSw = false ∧
    (press1 (exec (.cureTick .p1) (cureDemo 90000 id))).cure.cavities.c0.complete = true ∧
    (press1 (exec (.cureTick .p1) (cureDemo 0 id))).cure.cavities.c0.complete = false := by decide +kernel

/-- The cell with that record, a press state and a value of zone 0. -/
def measured (st : PressState) (v : Int) : State :=
  { demo st (fun pr => { pr with
      zones := [{ demoZone with primary := ⟨.ok, some v, 0⟩, dose := 90000 }, { demoZone with dose := 90000 }]
      cure := { pr.cure with state := .running, timer := .running 5, closedTime := some 0, nextTick := some 0 } }) with
    history := ⟨[cureRecord], some 6⟩ }

/-- R115: the bands are 30 below and 40 above 1500: 1470 and 1540 are inside, 1469 and 1541 out. -/
theorem wit_CureTicksMeasureAndSummariesFollow : ((measured .curing 1469).press .p1).cure.state = .running ∧
    ((measured .curing 1469).press .p1).cure.nextTick = some 0 ∧ (measured .curing 1469).boundRecipe .p1 = some demoRecipe ∧
    ((measured .curing 1469).press .p1).level .openSw = false ∧ (measured .curing 1469).listening = true ∧
    (1469 : Int) < 1500 - demoRecipe.cure.lowBand ∧ ¬((1470 : Int) < 1500 - demoRecipe.cure.lowBand) ∧
    (1500 : Int) + demoRecipe.cure.highBand < 1541 ∧ ¬((1500 : Int) + demoRecipe.cure.highBand < 1540) ∧
    (measured .curing 1469).history.records[0]? = some cureRecord ∧ cureRecord.close = none ∧
    ((measured .opening 1500).press .p1).state = .opening ∧ ((measured .opening 1500).press .p1).configured = true ∧
    ((demo .curing fun pr => { pr with zones := [blind .stopped .failed] }).press .p1).sourceAt 0 = .none ∧
    0 ∈ (demo .curing id).footprint .p1 .c0 := by decide +kernel

/-- R115, R116, R121: the tick that completes the cavity measures it and finishes its summary. -/
theorem test_cure_summary :
    ((ran (exec (.cureTick .p1) (measured .curing 1469))).history.records.map fun r => r.cure.map fun c =>
      (c.extremes, c.excursion, c.offset, c.finished)) = [some (some (1469, 1500), 200, some 0, true)] ∧
    ((ran (exec (.cureTick .p1) (measured .curing 1470))).history.records.map fun r => r.cure.map fun c => c.excursion)
      = [some 0] := by decide +kernel

theorem wit_TimersRunOut_cure : (cureDemo 0 id).boundRecipe .p1 = some demoRecipe ∧
    ((demo .curing id).press .p1).cure.state ≠ .running ∧ ((cureDemo 0 id).press .p1).cure.state = .running ∧
    ((cureDemo 0 id).press .p1).cure.timer = .running 0 ∧
    (((cureDemo 0 id).press .p1).cure.cavities.get .c0).complete = false ∧ ((cureDemo 0 id).press .p1).state = .curing := by
  decide +kernel

theorem wit_SamplesErrorsAndSettles_samples : (scale .idle id).weigh.build = none ∧ (scale .idle id).weigh.state ≠ .faulted ∧
    0 < (scale .idle id).weigh.params.n ∧ (scale .idle fun w => { w with errors := 48 }).weigh.errors < 49 ∧
    (scale .idle fun w => { w with sampleTimer := 0 }).weigh.sampleTimer = 0 ∧ (scale .idle id).weigh.sampleTimer ≠ 0 ∧
    49 ≤ (scale .idle fun w => { w with errors := 49 }).weigh.errors ∧ (scale .faulted id).weigh.state = .faulted ∧
    (scale .faulted id).weigh.tray.accepted = false ∧ (scale .faulted id).weigh.build = none := by decide +kernel

theorem wit_SamplesErrorsAndSettles_rounded : 0 < 1 ∧ 2 * ((-5 : Int) - roundDiv (-5) 2 * 2) = 2 ∧
    2 * ((5 : Int) - roundDiv 5 2 * 2) = -2 := by decide +kernel

/-- Ten averages within 10, ten within 11, and nine. -/
theorem wit_SamplesErrorsAndSettles_settled :
    (scale .idle fun w => { w with averages := 900 :: List.replicate 9 0 ++ [10] }).weigh.settled = some 10 ∧
    (scale .idle fun w => { w with averages := List.replicate 9 0 ++ [11] }).weigh.settled = none ∧
    (scale .idle fun w => { w with averages := List.replicate 9 0 }).weigh.settled = none ∧
    1 ≤ (scale .idle id).weigh.used.s := by decide +kernel

/-- R133: new weigh parameters wait for the next sample, good or ERR. -/
theorem test_weigh_params :
    let s := ran (exec (.cellConfig [0, 1, 2, 5, 0, 1, 0, 0, 0, 0]) (scale .idle id))
    s.weigh.params = ⟨2, 5, 1, 0⟩ ∧ s.weigh.used = ⟨4, 10, 10, 20000⟩ ∧
    replied (exec (.calZero []) (ran (exec .replyComplete s))) = [0, 0, 0, 0, 101] ∧
    (ran (exec (.scaleSample .errCode) s)).weigh.used = ⟨2, 5, 1, 0⟩ := by decide +kernel

/-- A build in hand of the demo recipe's one ply, with the averages given. -/
def building (st : StationState) (avgs : List Int) : State :=
  scale st fun w => { w with
    massWindow := avgs, averages := avgs
    build := some ⟨7, .p1, .c0, ⟨57, 1⟩, 1, some 0, some 0, 1, 0, []⟩ }

def takenBy (n : Int) (s : State) : Weigh := Weigh.takeGood n (s.weigh.beginSample 30)

theorem wit_AttemptMakesACharge_tare :
    let s := building .taring (List.replicate 9 100)
    s.weigh.copy.overload 100 = false ∧ (s.weigh.build.bind s.plan) = some ⟨[⟨1000, 10⟩], 20⟩ ∧
    (takenBy 100 s).settled = some 100 ∧ (100 : Int) ≤ s.weigh.params.tareMax ∧
    (takenBy (-1) (building .taring (List.replicate 9 (-1)))).settled = some (-1) := by decide +kernel

theorem wit_AttemptMakesACharge_ply :
    (takenBy 251 (building .awaitPly (List.replicate 9 251))).average = some 251 ∧
    (takenBy 250 (building .settling (List.replicate 9 250))).settled = some 250 ∧ (250 : Int) ≤ 0 + (1000 : Int).tdiv 4 ∧
    (takenBy 990 (building .settling (List.replicate 9 990))).settled = some 990 ∧
    (takenBy 1010 (building .settling (List.replicate 9 1010))).settled = some 1010 ∧
    ((building .settling []).recipes.find 57) = some demoRecipe ∧
    ((building .settling []).press .p1).autoLoad = false := by decide +kernel

/-- Two plies to place, the first in hand. -/
theorem wit_AttemptMakesACharge_first :
    let r : Recipe := { demoRecipe with charge := ⟨[⟨[⟨1000, 10⟩, ⟨500, 5⟩], 20⟩], 600⟩ }
    let s := { building .settling (List.replicate 9 1000) with recipes := ⟨[.valid r], none⟩ }
    (s.weigh.build.bind s.plan) = some ⟨[⟨1000, 10⟩, ⟨500, 5⟩], 20⟩ ∧ (takenBy 1000 s).settled = some 1000 ∧ 1 < 2 := by
  decide +kernel

/-- R135, R138: TARE_FAULT at a tare below 0, CHARGE_DONE at the last ply. -/
theorem test_attempt_events :
    (ran (exec (.scaleSample (.raw (-1))) (building .taring (List.replicate 9 (-1))))).events.queue.getLast?.map (fun e => e.detail)
      = some (.fault .tareFault .advisory .none) ∧
    (ran (exec (.scaleSample (.raw 1000)) (building .settling (List.replicate 9 1000)))).events.queue.getLast?.map
      (fun e => (e.kind, e.press, e.detail, e.number)) = some (.chargeDone, some .p1, .charge .c0, some 1) := by decide +kernel

/-- The build with rejects behind it, serving an order that has failed a number of times, at a settled value. -/
def failing (st : StationState) (rejects attempts : Nat) (v : Int) : State :=
  { scale st (fun w => { w with
      massWindow := List.replicate 9 v, averages := List.replicate 9 v
      build := some ⟨7, .p1, .c0, ⟨57, 1⟩, 1, some 0, some 0, 1, rejects, []⟩ }) with
    orders := [⟨6, .p1, .c1, ⟨57, 1⟩, 0⟩, ⟨7, .p1, .c0, ⟨57, 1⟩, attempts⟩] }

/-- The target is 1000 within 10: 989 and 1011 are out; a ply is off where the scale is within 10 of the value before. -/
theorem wit_AttemptsFail :
    let s := failing .settling 2 2 989
    (s.weigh.build.bind s.plan) = some ⟨[⟨1000, 10⟩], 20⟩ ∧ s.weigh.copy.overload 989 = false ∧
    (takenBy 989 s).settled = some 989 ∧ 0 + (1000 : Int).tdiv 4 < 989 ∧ (989 : Int) - 0 < 1000 - 10 ∧
    (takenBy 1011 (failing .settling 1 1 1011)).settled = some 1011 ∧ (1000 : Int) + 10 < 1011 - 0 ∧
    (takenBy 10 (failing .plyRejected 1 1 10)).settled = some 10 ∧ (takenBy 11 (failing .plyRejected 1 1 11)).settled = some 11 ∧
    s.orders = [⟨6, .p1, .c1, ⟨57, 1⟩, 0⟩] ++ ⟨7, .p1, .c0, ⟨57, 1⟩, 2⟩ :: [] ∧ s.weigh.state.isBuild = true ∧
    300000 < roundDiv (((300001 : Int) - 0) * 65536) 65536 ∧ s.weigh.copy.span.isSome = true := by decide +kernel

/-- A total out of its tolerance with every ply within its own. -/
theorem wit_AttemptsFail_total :
    let r : Recipe := { demoRecipe with charge := ⟨[⟨[⟨1000, 10⟩], 5⟩], 600⟩ }
    let s := { failing .settling 0 0 1006 with recipes := ⟨[.valid r], none⟩ }
    (s.weigh.build.bind s.plan) = some ⟨[⟨1000, 10⟩], 5⟩ ∧ (takenBy 1006 s).settled = some 1006 ∧
    (1000 : Int) - 10 ≤ 1006 - 0 ∧ (1006 : Int) - 0 ≤ 1000 + 10 ∧ ([1000] : List Int).sum + 5 < 1006 - 0 := by decide +kernel

theorem wit_AttemptsFail_tray :
    let s := { failing .awaitPly 0 2 0 with weigh := { (failing .awaitPly 0 2 0).weigh with tray := ⟨false, 100, true⟩ } }
    s.weigh.build.isSome = true ∧ s.weigh.state.isBuild = true ∧ s.weigh.tray.raw = false ∧ s.weigh.tray.accepted = true ∧
    s.weigh.filter ≤ s.weigh.tray.stable := by decide +kernel

/-- R137, R139: a first reject waits, a third fails the attempt, and the third failed attempt takes the order. -/
theorem test_ply_reject :
    (ran (exec (.scaleSample (.raw 989)) (failing .settling 0 0 989))).weigh.state = .plyRejected ∧
    (ran (exec (.scaleSample (.raw 989)) (failing .settling 2 1 989))).orders.map (fun o => (o.number, o.attempts)) = [(6, 0), (7, 2)] ∧
    (ran (exec (.scaleSample (.raw 989)) (failing .settling 2 2 989))).orders.map (fun o => o.number) = [6] ∧
    ((ran (exec (.scaleSample (.raw 989)) (failing .settling 2 2 989))).events.queue.map fun e => e.kind)
      = [.restart, .fault, .orderFailed] := by decide +kernel

theorem wit_CalibrationWritesTheCopy_row : State.reset.weigh.writing = none ∧
    (ran (exec (.calCommit []) (scale .idle id))).weigh.writing = some ⟨1, 0, 65536⟩ ∧ (scale .faulted id).listening = true ∧
    (scale .faulted id).weigh.state ≠ .idle ∧ (scale .faulted id).weigh.state ≠ .uncalibrated := by decide +kernel

theorem wit_CalibrationWritesTheCopy_idle : (scale .idle id).listening = true ∧ (scale .idle id).weigh.state = .idle ∧
    (scale .idle id).weigh.used.n ≤ (scale .idle id).weigh.rawWindow.length ∧ 0 < (scale .idle id).weigh.used.n ∧
    (scale .idle fun w => { w with rawWindow := [1, 2, 3] }).weigh.rawWindow.length < 4 ∧
    (scale .idle id).weigh.copy.zeroSet = true ∧ roundDiv ([999, 999, 999, 999] : List Int).sum 4 - 0 < 1000 ∧
    1000 ≤ roundDiv ([1000, 1000, 1000, 1000] : List Int).sum 4 - 0 ∧ roundDiv ((300000 : Int) * 65536) 10000 ≤ 4194303 ∧
    (scale .idle id).weigh.copy.valid = true ∧ (scale .idle id).weigh.rows = [] ++ none :: [none, none, none] ∧
    (scale .idle id).weigh.copy.span = some 65536 ∧
    (∀ r ∈ (scale .idle fun w => { w with rows := List.replicate 4 (some ⟨0, 1, 0⟩) }).weigh.rows, r.isSome = true) ∧
    (scale .idle fun w => { w with copy := { w.copy with valid := false } }).weigh.copy.valid = false ∧
    State.reset.weigh.state = .uncalibrated ∧ State.reset.orders = [] ∧ State.reset.listening = true := by decide +kernel

/-- An uncalibrated station that holds four raw counts, the zero and the span set or not. -/
def uncalibrated (zero : Bool) (span : Option Nat) (counts : List Int) : State :=
  scale .uncalibrated fun w => { w with copy := ⟨0, span, zero, span.isSome, false, 0⟩, rawWindow := counts }

/-- A reference too light, spans of 0 and above 4,194,303, fields one past their ranges. -/
theorem wit_CalibrationWritesTheCopy_refused :
    let s := scale .idle fun w => { w with rawWindow := List.replicate 4 1000 }
    s.weigh.state = .idle ∧ s.listening = true ∧ s.weigh.used.n ≤ s.weigh.rawWindow.length ∧ s.weigh.copy.zeroSet = true ∧
    4194303 < roundDiv ((300000 : Int) * 65536) 1000 ∧ roundDiv ((1 : Int) * 65536) 200000 < 1 ∧
    (uncalibrated true none [1, 2, 3]).weigh.rawWindow.length < 4 ∧ (uncalibrated true none []).weigh.copy.valid = false ∧
    replied (exec (.calSpan (u32 300001)) s) = [0x03, 1] ∧ replied (exec (.calSpan (u32 300000)) s) = [0x03, 1] ∧
    replied (exec (.calSet (i32 (-8388609) ++ u32 1)) s) = [0x03, 1] ∧ replied (exec (.calSet (i32 8388607 ++ u32 4194304)) s) = [0x03, 2] ∧
    replied (exec (.calCommit []) (uncalibrated true none [])) = [0x04, 0] := by decide +kernel

theorem wit_CalibrationWritesTheCopy_uncalibrated : (uncalibrated true none [1000, 1000, 1000, 1000]).weigh.state = .uncalibrated ∧
    (uncalibrated true none []).orders = [] ∧ (uncalibrated true none []).listening = true ∧
    (uncalibrated true none [1, 2, 3]).weigh.rawWindow.length < (uncalibrated true none [1, 2, 3]).weigh.used.n ∧
    (uncalibrated true none [1000, 1000, 1000, 1000]).weigh.used.n
      ≤ (uncalibrated true none [1000, 1000, 1000, 1000]).weigh.rawWindow.length ∧
    0 < (uncalibrated true none []).weigh.used.n ∧ (uncalibrated false none []).weigh.copy.zeroSet = false ∧
    (uncalibrated false none []).weigh.copy.valid = false ∧ (uncalibrated true none []).weigh.copy.zeroSet = true := by
  decide +kernel

/-- R129, R130: the zero alone leaves the station UNCALIBRATED; the span, once the zero is set, takes it to IDLE, and so does the
zero after the span. -/
theorem test_cal_uncalibrated :
    (ran (exec (.calZero []) (uncalibrated false none [5, 5, 5, 5]))).weigh.state = .uncalibrated ∧
    (ran (exec (.calSpan [0, 0, 0x03, 0xE8]) (uncalibrated true none [2000, 2000, 2000, 2000]))).weigh.state = .idle ∧
    replied (exec (.calSpan [0, 0, 0x03, 0xE8]) (uncalibrated false none [2000, 2000, 2000, 2000])) = [0x04, 0] ∧
    (ran (exec (.calZero []) (uncalibrated false (some 9) [5, 5, 5, 5]))).weigh.state = .idle := by decide +kernel

theorem wit_OrdersAndExpiries_orders : (scale .idle id).listening = true ∧ ((scale .idle id).press .p1).captured = some ⟨57, 1⟩ ∧
    (scale .idle id).recipes.find 57 = some demoRecipe ∧ cavityCode .c0 < demoRecipe.header.cavities ∧
    (scale .idle id).weigh.state ≠ .uncalibrated ∧ (scale .idle id).orders.length + 2 ≤ 8 ∧
    (scale .idle id).supply .p1 .c0 + 2 ≤ 2 ∧ (scale .idle id).nextOrder < 256 ∧
    2 < ({ scale .idle id with orders := [⟨7, .p1, .c0, ⟨57, 1⟩, 0⟩] } : State).supply .p1 .c0 + 2 ∧
    (∀ o ∈ (scale .idle id).orders, o.number ≠ 7) ∧ (((building .taring []).weigh.build.map fun b => b.order) = some 7) ∧
    (building .taring []).weigh.state ≠ .idle := by decide +kernel

/-- An empty queue, the station IDLE and the tray present. -/
theorem wit_OrdersAndExpiries_starts :
    let s := scale .idle fun w => { w with tray := high }
    s.orders = [] ∧ s.weigh.state = .idle ∧ s.weigh.tray.accepted = true ∧ s.supply .p1 .c0 + 2 ≤ 2 ∧
    (scale .idle id).weigh.tray.accepted = false ∧
    (ran (exec (.chargeOrder [1, 0, 2]) s)).weigh.build.map (fun b => (b.order, b.attempt)) = some (0, 1) := by decide +kernel

theorem wit_OrdersAndExpiries_expiry : ((demo .ready staged).press .p1).staging.get .c0 = [] ++ demoCharge :: [] ∧
    (demoCharge.expiry - demoCharge.weighed).toNat ≤ (({ demo .ready staged with time := 600000 } : State).time - demoCharge.weighed).toNat ∧
    ((demo .ready staged).press .p1).autoOrder = false ∧
    (∀ x ∈ ((demo .ready staged).press .p1).staging.get .c0, x.expired 599999 = false) := by decide +kernel

/-- A charge that expires while auto-order may answer it. -/
theorem wit_OrdersAndExpiries_auto :
    ((orderingDemo true).press .p1).staging.get .c0 = [] ++ demoCharge :: [] ∧
    ((orderingDemo true).press .p1).autoOrder = true ∧ ((orderingDemo true).press .p1).heatMode = .run ∧
    ((orderingDemo true).press .p1).captured = some ⟨57, 1⟩ ∧ (orderingDemo true).recipes.find 57 = some demoRecipe ∧
    cavityCode .c0 < demoRecipe.header.cavities ∧ (orderingDemo true).weigh.state ≠ .uncalibrated ∧
    (orderingDemo true).orders.length < 8 ∧ (orderingDemo true).supply .p1 .c0 ≤ 2 := by decide +kernel

theorem wit_EjectionTimers : ((ejecting 4 0).press .p1).state = .ejecting ∧ (ejecting 4 0).boundRecipe .p1 = some demoRecipe ∧
    ((demo .ejecting fun pr => { pr with eject := { pr.eject with channels := ⟨.stroking 0 1, .unused, .unused, .unused⟩ } }).press
      .p1).eject.channels.get .ch0 = .stroking 0 1 ∧
    (((ejecting 4 0).press .p1).eject.cavities.get .c0).state = .attempting ∧
    (((ejecting 4 0).press .p1).eject.cavities.get .c0).timer = some 0 ∧
    (((ejecting 3 0).press .p1).eject.cavities.get .c0).seqAttempts < demoRecipe.eject.maxAttempts ∧
    demoRecipe.eject.maxAttempts ≤ (((ejecting 4 0).press .p1).eject.cavities.get .c0).seqAttempts ∧
    (∃ c ∈ cavitiesOf demoRecipe.header.cavities, (((ejecting 4 0).press .p1).eject.cavities.get c).state ≠ .released) := by
  decide +kernel

/-- A recipe whose channel 1 follows with a delay; and the last stroke of an ejection that is done. -/
theorem wit_EjectionTimers_channels :
    let r : Recipe := { demoRecipe with eject := { demoRecipe.eject with
      channels := { demoRecipe.eject.channels with ch1 := ⟨.follow, 800, 100, 4⟩ } } }
    let s := { ejecting 1 5 with recipes := ⟨[.valid r], none⟩ }
    let done : EjectCavity := { EjectCavity.cleared with state := .released }
    let e : Eject := ⟨⟨.stroking 0 1, .unused, .unused, .unused⟩, ⟨done, .cleared⟩⟩
    s.boundRecipe .p1 = some r ∧ (s.press .p1).eject.channels.get .ch1 = .delaying 0 ∧
    channelCavity r.eject r.header.cavities .ch1 = some .c0 ∧ ((s.press .p1).eject.cavities.get .c0).state = .attempting ∧
    (∀ c ∈ cavitiesOf demoRecipe.header.cavities, (e.cavities.get c).state = .released) ∧
    (∀ k ∈ allChannels, k ≠ .ch0 → (e.channels.get k).isStroking = false) ∧
    ((demo .ejecting fun pr => { pr with eject := e }).press .p1).level .unloadedSw = false := by decide +kernel

theorem wit_EjectionTimers_records : ((demoulded 3 0).press .p1).state = .ejecting ∧
    (demoulded 3 0).history.records.map (fun x => (x.press, x.close.isSome, x.demould.isSome)) = [(.p1, false, true)] ∧
    (((demoulded 3 0).press .p1).eject.cavities.get .c0).state = .attempting ∧
    (((demoulded 3 0).press .p1).eject.cavities.get .c0).timer = some 0 := by decide +kernel

/-- A recipe whose channel 1 follows after the release timeout, its delay over. -/
def following (timer : Nat) : State :=
  let r : Recipe := { demoRecipe with eject := { demoRecipe.eject with
    channels := { demoRecipe.eject.channels with ch1 := ⟨.follow, 800, 1500, 4⟩ } } }
  { demo .ejecting (fun pr => { pr with eject :=
      ⟨⟨.idle, .delaying 0, .unused, .unused⟩,
        ⟨{ EjectCavity.cleared with state := .attempting, seqAttempts := 1, timer := some timer, start := some 0 }, .cleared⟩⟩ }) with
    recipes := ⟨[.valid r], none⟩ }

/-- The delay is over with the attempt timer at 0, and at 1. -/
theorem wit_EjectionTimers_follower : ((following 0).press .p1).state = .ejecting ∧
    ((following 0).boundRecipe .p1).isSome = true ∧ ((following 0).press .p1).eject.channels.get .ch1 = .delaying 0 ∧
    (((following 0).press .p1).eject.cavities.get .c0).timer = some 0 ∧
    (((following 1).press .p1).eject.cavities.get .c0).timer ≠ some 0 ∧
    (((following 0).press .p1).eject.cavities.get .c0).state = .attempting ∧
    (((following 0).press .p1).eject.channels.get .ch1).isStroking = false := by decide +kernel

/-- R161: a follower whose delay is the release timeout never strokes: the timeout restarts its delay. -/
theorem test_follower_never_strokes : Instr.followerDelayEnd .p1 .ch1 ∉ dueEvents (following 0) ∧
    Instr.attemptTimerExpiry .p1 .c0 ∈ dueEvents (following 0) ∧
    (press1 (exec (.followerDelayEnd .p1 .ch1) (following 0))).eject.channels.ch1 = .delaying 0 ∧
    (press1 (exec (.attemptTimerExpiry .p1 .c0) (following 0))).eject.channels.ch1 = .delaying 1500 := by decide +kernel

/-- Press 1 in a state with several things due at once, and the cell with its round and its sample. -/
def allDue (st : PressState) : State :=
  { demo st (fun pr => { pr with
      readyRun := some 5000, timers := ⟨some 0, some 0, some 0, some 0⟩
      inputs := { pr.inputs with partFree0 := rising }
      zones := [{ demoZone with hold := .running 0 }]
      cure := { pr.cure with state := .running, nextTick := some 0, timer := .running 0 }
      eject := ⟨⟨.stroking 0 1, .idle, .unused, .unused⟩, ⟨{ EjectCavity.cleared with state := .attempting, timer := some 0 }, .cleared⟩⟩
      staging := ⟨[⟨3, .p1, .c0, ⟨57, 1⟩, 0, [], 0, 1, 0, 0⟩], []⟩ }) with
    feed := { State.reset.feed with nextRound := 0 }
    weigh := { State.reset.weigh with tray := rising, sampleTimer := 0 } }

/-- R22, R28, R29, R60, R80, R91, R98, R109, R117, R126, R149, R158, R161: each kind of time-driven command falls due somewhere. -/
theorem wit_EmptyQueueLetsTimePass_due :
    (∀ i ∈ [Instr.pressInputAccepted .p1 .partFree0, .trayPresentAccepted, .overdueExpiry .p1, .controlTick .p1, .blindHoldExpiry .p1 0,
      .allocationRound, .cureTick .p1, .cureTimerExpiry .p1, .strokeEnd .p1 .ch0, .attemptTimerExpiry .p1 .c0, .sampleTimerExpiry,
      .chargeExpiry .p1 .c0], i ∈ dueEvents (allDue .ejecting)) ∧
    Instr.readyDwellReached .p1 ∈ dueEvents (allDue .preheat) ∧ Instr.followerDelayEnd .p1 .ch1 ∈ dueEvents (following 1) ∧
    Instr.timeoutTimerExpiry .p1 .loadT ∈ dueEvents (allDue .loading) ∧ Instr.timeoutTimerExpiry .p1 .closeT ∈ dueEvents (allDue .closing) ∧
    Instr.timeoutTimerExpiry .p1 .openT ∈ dueEvents (allDue .opening) ∧
    Instr.timeoutTimerExpiry .p1 .clearT ∈ dueEvents (allDue .clearing) := by decide +kernel

/-- Press 1 in CLEARING with UNLOADED to be accepted and an OPEN record whose cure is done. -/
def closing (f : CureSummary → CureSummary) : State :=
  { demo .clearing (fun pr => { pr with inputs := { pr.inputs with unloadedSw := rising } }) with
    history := ⟨[{ cureRecord with cure := some (f ⟨some 0, some 9, some (1500, 1500), some (90000, 0), 0, [], false, some 9, false, false,
      true⟩) }], some 6⟩ }

theorem wit_RecordsCloseWithTheirVerdict : ((closing id).press .p1).state = .clearing ∧
    (closing id).pressFilter ≤ (((closing id).press .p1).inputs.get .unloadedSw).stable ∧
    (((closing id).press .p1).inputs.get .unloadedSw).raw = true ∧ ((closing id).press .p1).level .unloadedSw = false ∧
    (closing id).listening = true ∧ ((closing id).press .p1).state.inCycle = true ∧ ((closing id).press .p1).run.state ≠ .running ∧
    ((closing id).press .p1).configured = true ∧ EventKind.partClosed ∉ (closing id).events.disabled ∧
    (closing id).events.queue.length + ((closing id).openRecords .p1).length ≤ 64 := by decide +kernel

/-- A CLOSED record at a cell reset, beside an OPEN one of a press in its cycle. -/
theorem wit_RecordsCloseWithTheirVerdict_kept : (closing id).OpenOnlyInCycle ∧ logged.OpenOnlyInCycle ∧
    logged.listening = true ∧ ∃ r ∈ logged.history.records, ¬(r.close = none ∧ (logged.press r.press).configured = true) := by
  unfold State.OpenOnlyInCycle
  decide +kernel

/-- What UNLOADED makes of the record's disposition, the cure summary given. -/
def verdict (f : CureSummary → CureSummary) : List (Option Disposition) :=
  (ran (exec (.pressInputAccepted .p1 .unloadedSw) (closing f))).history.records.map fun r => r.close.map fun k => k.disposition

/-- R176: an allowance of 10,000 ms met exactly is GOOD, one more is SUSPECT; the mark makes it UNDERCURED. -/
theorem test_verdicts : verdict (fun c => { c with excursion := 10000 }) = [some .good] ∧
    verdict (fun c => { c with excursion := 10001 }) = [some .suspect] ∧ verdict (fun c => { c with blind := true }) = [some .suspect] ∧
    verdict (fun c => { c with undercured := true, excursion := 10001 }) = [some .undercured] := by decide +kernel

theorem wit_RecordsAreReadNotedReleased : logged.listening = true ∧ (logged.history.find 5).isSome = true ∧
    ((logged.history.find 5).bind fun r => r.close).isSome = true ∧ ((logged.history.find 6).map fun r => r.close) = some none ∧
    logged.history.find 4294967295 = none ∧ (List.replicate 24 (126 : Byte)).length ≤ 24 ∧
    (∀ b ∈ (32 : Byte) :: List.replicate 23 126, 32 ≤ b.toNat ∧ b.toNat ≤ 126) ∧
    (∃ b ∈ [(31 : Byte)], b.toNat < 32 ∨ 126 < b.toNat) ∧ (∃ b ∈ [(127 : Byte)], b.toNat < 32 ∨ 126 < b.toNat) ∧
    24 < (List.replicate 25 (65 : Byte)).length := by decide +kernel

theorem wit_RecordsAreReadNotedReleased_auto : ∀ p, logged.autoLoadOff p := by
  intro p
  unfold State.autoLoadOff
  cases p <;> decide +kernel

theorem wit_RecordsAreReadNotedReleased_serial : State.reset.listening = true ∧ State.reset.history.records = [] ∧
    logged.listening = true ∧ logged.history.records ≠ [] := by decide +kernel

/-- A state with a command waiting. -/
def waiting (i : Instr) (s : State) : State := { s with pending := [i] }

theorem wit_StepsKeepTheEventBound :
    (waiting (.scanMarker .p1) (demo .ready id)).EventsBounded ∧ ∃ t, step (waiting (.scanMarker .p1) (demo .ready id)) = .next t :=
  ⟨by unfold State.EventsBounded; decide +kernel, _, rfl⟩

theorem wit_StepsKeepTheSupplyBound :
    let s := waiting (.chargeExpiry .p1 .c0) { demo .ready staged with time := 600000 }
    s.SupplyBounded ∧ s.BuildServed ∧ s.StagedInPlace ∧ s.BuildInBuildStates ∧ ∃ t, step s = .next t := by
  refine ⟨?_, ?_, ?_, rfl, _, rfl⟩
  · intro p c
    cases p <;> cases c <;> decide +kernel
  · intro b h
    cases h
  · intro p c
    cases p <;> cases c <;> decide +kernel

theorem wit_StepsKeepTheLogOrdered :
    let s := waiting (.abort [1]) logged
    s.SerialsOrdered ∧ s.LogBounded ∧ ∃ t, step s = .next t := by
  refine ⟨⟨by decide +kernel, ?_⟩, ?_, _, rfl⟩
  · show ∀ r ∈ logged.history.records, r.serial < 7
    decide +kernel
  · unfold State.LogBounded
    decide +kernel

theorem wit_StepsKeepOpenRecordsInCycles :
    let s := waiting (.abort [1]) logged
    s.OpenOnlyInCycle ∧ s.OpenExactlyInCycle ∧ s.SlotIdsDistinct ∧ (∀ p, (s.press p).PriorMatches) ∧ ∃ t, step s = .next t := by
  refine ⟨?_, ?_, ?_, ?_, _, rfl⟩
  · unfold State.OpenOnlyInCycle
    decide +kernel
  · intro p
    cases p <;> decide +kernel
  · unfold State.SlotIdsDistinct
    decide +kernel
  · intro p
    unfold Press.PriorMatches
    cases p <;> decide +kernel

/-- A cure done whose record waits to be closed: it carries its completion offset. -/
theorem wit_StepsKeepTheVerdictsSound :
    let s := waiting (.pressInputAccepted .p1 .unloadedSw) (closing id)
    (∀ p, (s.press p).PriorMatches) ∧ s.SlotIdsDistinct ∧ s.OpenExactlyInCycle ∧ s.VerdictsSound ∧ ∃ t, step s = .next t := by
  refine ⟨?_, ?_, ?_, ⟨?_, ?_⟩, _, rfl⟩
  · intro p
    unfold Press.PriorMatches
    cases p <;> decide +kernel
  · unfold State.SlotIdsDistinct
    decide +kernel
  · intro p
    cases p <;> decide +kernel
  · intro p
    cases p <;> decide +kernel
  · intro r h
    simp only [waiting, closing, List.mem_singleton] at h
    subst h
    exact ⟨(fun x hx => nomatch hx), fun _ => ⟨by decide +kernel, fun hp => absurd hp (by decide +kernel), fun _ => ⟨_, rfl, .inl rfl⟩⟩⟩

theorem wit_StepsKeepTheGrantsWithinTheLimit :
    (waiting .allocationRound (roundDemo 2999 9)).feed.WithinLimit ∧
    ∃ t, step (waiting .allocationRound (roundDemo 2999 9)) = .next t :=
  ⟨by unfold Feed.WithinLimit; decide +kernel, _, rfl⟩

theorem wit_StepsKeepTheBoardsAtTheirDuties :
    let s := waiting .allocationRound (roundDemo 2999 9)
    (∀ p, (s.press p).BoardsFollow) ∧ ∃ t, step s = .next t := by
  refine ⟨?_, _, rfl⟩
  intro p
  cases p
  case p1 =>
    refine ⟨by decide +kernel, fun i => ?_⟩
    have h : heldDuty ((roundDemo 2999 9).press .p1).drive i = 0 := (Press.initial_boardsFollow Inputs.low).2 i
    match i with
    | 0 => exact h
    | 1 => exact h
    | _ + 2 => exact h
  all_goals exact Press.initial_boardsFollow _

theorem wit_StepsNeverLowerADose :
    let s := waiting (.cureTick .p1) (cureDemo 4294967295 id)
    (∃ t, step s = .next t) ∧ ((s.press .p1).zones[0]?.map fun z => z.dose) = some 4294967295 :=
  ⟨⟨_, rfl⟩, by decide +kernel⟩

end Sys2Proof.Tests
end

section
/-! RECIPE_ABANDON and RECIPE_DELETE (R15): what the owning block answers in each case, and the statement O14. -/

namespace Sys2Proof.Machine

/-! ## The slot that holds an id -/

/-- No slot is found for an id that no slot holds. -/
theorem findIdx?_holdsId_eq_none {slots : List Slot} {id : Nat} (h : ∀ x ∈ slots, Slot.holdsId id x = false) :
    slots.findIdx? (Slot.holdsId id) = none := List.findIdx?_eq_none_iff.mpr h

/-- The slot found for an id is the lowest one that holds it. -/
theorem findIdx?_holdsId_eq_some {slots : List Slot} {id i : Nat} {x : Slot} (hx : slots[i]? = some x)
    (hid : Slot.holdsId id x = true) (hlow : ∀ j y, j < i → slots[j]? = some y → Slot.holdsId id y = false) :
    slots.findIdx? (Slot.holdsId id) = some i := by
  obtain ⟨hi, hget⟩ := List.getElem?_eq_some_iff.mp hx
  refine List.findIdx?_eq_some_iff_getElem.mpr ⟨hi, hget.symm ▸ hid, fun j hj => ?_⟩
  simp [hlow j _ hj (List.getElem?_eq_getElem (hj.trans hi))]

/-! ## RECIPE_ABANDON -/

theorem exec_recipeAbandon (payload : Payload) (s : State) :
    exec (.recipeAbandon payload) s = answer 0x12 s (noPayload payload (recipeAbandon s)) := rfl

/-- With no load in progress there is nothing to abandon. -/
theorem recipeAbandon_of_no_load {s : State} (h : s.recipes.pointer = none) : recipeAbandon s = .refuse .badState 0 := by
  simp only [recipeAbandon, h]

/-- A load in progress is discarded and the pointer becomes NONE. -/
theorem recipeAbandon_of_load {s : State} {sec : Section} (h : s.recipes.pointer = some sec) :
    recipeAbandon s = .ok [] { s with recipes := ⟨s.recipes.slots.map Slot.discard, none⟩ } := by
  simp only [recipeAbandon, h]

/-! ## RECIPE_DELETE -/

theorem exec_recipeDelete (payload : Payload) (s : State) :
    exec (.recipeDelete payload) s = answer 0x13 s (recipeDelete payload s) := rfl

section Delete

variable {s : State} {id : Byte} {i : Nat}

theorem recipeDelete_of_no_slot (h : s.recipes.slots.findIdx? (Slot.holdsId id.toNat) = none) :
    recipeDelete [id] s = .refuse .noRecord 0 := by
  simp only [recipeDelete, h]

theorem recipeDelete_of_loading {h : Header} {x : PartialRecipe}
    (hfind : s.recipes.slots.findIdx? (Slot.holdsId id.toNat) = some i) (hslot : s.recipes.slots[i]? = some (.loading h x)) :
    recipeDelete [id] s = .refuse .badState 0 := by
  simp only [recipeDelete, hfind, hslot]

/-- A VALID recipe is deleted unless it is in use. -/
theorem recipeDelete_of_valid {r : Recipe}
    (hfind : s.recipes.slots.findIdx? (Slot.holdsId id.toNat) = some i) (hslot : s.recipes.slots[i]? = some (.valid r)) :
    recipeDelete [id] s = if s.inUse id.toNat then .refuse .inUse 0
      else .ok [] { s with recipes := { s.recipes with slots := s.recipes.slots.set i .empty } } := by
  simp only [recipeDelete, hfind, hslot]

end Delete

/-- Settles O14: each clause is one case of the two blocks' answers, RECIPE_DELETE's by the lowest slot that holds the id. -/
theorem recipeAbandonAndDelete : Obligations.RecipeAbandonAndDelete := by
  intro s hl
  refine ⟨fun sec hp => ?abandon, fun hp => ?noLoad, fun id hno => ?noSlot, fun id i hlow => ⟨fun r hr hid => ?valid,
    fun h x hx hid => ?loading⟩⟩
  case abandon =>
    rw [exec_recipeAbandon, recipeAbandon_of_load hp]
    exact answer_ok hl
  case noLoad =>
    rw [exec_recipeAbandon, recipeAbandon_of_no_load hp]
    exact answer_refuse hl
  case noSlot =>
    rw [exec_recipeDelete, recipeDelete_of_no_slot (findIdx?_holdsId_eq_none hno)]
    exact answer_refuse hl
  case valid =>
    have hfind := findIdx?_holdsId_eq_some hr (beq_iff_eq.mpr hid) hlow
    rw [exec_recipeDelete, recipeDelete_of_valid hfind hr]
    constructor
    · intro huse
      rw [if_pos huse]
      exact answer_refuse hl
    · intro hfree
      rw [if_neg (Bool.eq_false_iff.mp hfree)]
      exact answer_ok hl
  case loading =>
    have hfind := findIdx?_holdsId_eq_some hx (beq_iff_eq.mpr hid) hlow
    rw [exec_recipeDelete, recipeDelete_of_loading hfind hx]
    exact answer_refuse hl

end Sys2Proof.Machine
end

section
/-! RESTORE_SENSOR (R66): what a change of one sensor does to the sensors and sources of a press, what the owning block answers
in each case, and the statement O35. The idea: a FAILED sensor and a DOUBTFUL one with no last good reading are both unusable,
so no source changes and no zone update follows. -/

namespace Sys2Proof.Machine

/-! ## One sensor of a zone changed -/

@[simp] theorem Zone.sensor_settleHold (z : Zone) (pos : Position) : z.settleHold.sensor pos = z.sensor pos := by
  unfold Zone.settleHold
  split
  · rfl
  · cases pos <;> rfl

@[simp] theorem Zone.source_settleHold (z : Zone) : z.settleHold.source = z.source := by
  unfold Zone.settleHold
  split <;> rfl

@[simp] theorem Zone.sensor_updSensor_same (z : Zone) (pos : Position) (f : Sensor → Sensor) :
    (z.updSensor pos f).sensor pos = f (z.sensor pos) := by
  cases pos <;> rfl

theorem Zone.sensor_updSensor_ne (z : Zone) {pos other : Position} (f : Sensor → Sensor) (h : other ≠ pos) :
    (z.updSensor pos f).sensor other = z.sensor other := by
  cases pos with
  | primary => cases other with
    | primary => exact absurd rfl h
    | spare => rfl
  | spare => cases other with
    | primary => rfl
    | spare => exact absurd rfl h

theorem Sensor.usable_of_failed {x : Sensor} (h : x.state = .failed) : x.usable = false := by
  simp [Sensor.usable, h]

/-- A zone's source depends on its sensors only through their being usable (R63). -/
theorem Zone.source_eq_of_usable_eq {z w : Zone} (hprimary : w.primary.usable = z.primary.usable)
    (hspare : w.spare.usable = z.spare.usable) : w.source = z.source := by
  simp only [Zone.source, hprimary, hspare]

theorem Zone.source_updSensor_of_usable_eq {z : Zone} {pos : Position} {f : Sensor → Sensor}
    (h : (f (z.sensor pos)).usable = (z.sensor pos).usable) : (z.updSensor pos f).source = z.source := by
  cases pos with
  | primary => exact Zone.source_eq_of_usable_eq h rfl
  | spare => exact Zone.source_eq_of_usable_eq rfl h

/-! ## One sensor of a press changed -/

@[simp] theorem press_setSensor_same (p : PressId) (k : SensorPos) (f : Sensor → Sensor) (s : State) :
    (setSensor p k f s).press p = (s.press p).updZone k.zone fun z => (z.updSensor k.position f).settleHold :=
  State.press_updPress_same s p _

theorem Press.sensorAt_of_zone {pr : Press} {k : SensorPos} {z : Zone} (h : pr.zones[k.zone]? = some z) :
    pr.sensorAt k = z.sensor k.position := by
  simp only [Press.sensorAt, h]

theorem Press.getElem?_zones_updZone_same {pr : Press} {i : Nat} {z : Zone} (g : Zone → Zone) (h : pr.zones[i]? = some z) :
    (pr.updZone i g).zones[i]? = some (g z) := by
  simp [Press.updZone, h]

theorem Press.getElem?_zones_updZone_ne {pr : Press} {i j : Nat} (g : Zone → Zone) (h : j ≠ i) :
    (pr.updZone i g).zones[j]? = pr.zones[j]? := by
  simp [Press.updZone, h.symm]

/-- A change of a sensor of the grid sets that sensor. -/
theorem sensorAt_setSensor_same {p : PressId} {k : SensorPos} {s : State} (f : Sensor → Sensor)
    (h : k.zone < (s.press p).zoneCount) :
    ((setSensor p k f s).press p).sensorAt k = f ((s.press p).sensorAt k) := by
  have hz : (s.press p).zones[k.zone]? = some (s.press p).zones[k.zone] := List.getElem?_eq_getElem h
  rw [press_setSensor_same, Press.sensorAt_of_zone (Press.getElem?_zones_updZone_same _ hz), Press.sensorAt_of_zone hz]
  simp

/-- A change of a zone that keeps the sensor at a position keeps it in the press. -/
theorem Press.sensorAt_updZone_of_kept {pr : Press} {k : SensorPos} {g : Zone → Zone}
    (h : ∀ z, (g z).sensor k.position = z.sensor k.position) : (pr.updZone k.zone g).sensorAt k = pr.sensorAt k := by
  cases hz : pr.zones[k.zone]? with
  | none => simp [Press.sensorAt, Press.updZone, hz]
  | some z => rw [Press.sensorAt_of_zone hz, Press.sensorAt_of_zone (Press.getElem?_zones_updZone_same g hz), h z]

/-- A change of a sensor keeps every other sensor of the press. -/
theorem sensorsKept_setSensor (p : PressId) (k : SensorPos) (f : Sensor → Sensor) (s : State) :
    sensorsKept (· = k) (s.press p) ((setSensor p k f s).press p) := by
  intro j hj
  rw [press_setSensor_same]
  by_cases hzone : j.zone = k.zone
  · have hpos : j.position ≠ k.position := fun h => hj (by cases j; cases k; simp_all)
    rw [← hzone]
    exact Press.sensorAt_updZone_of_kept fun z => by simp [Zone.sensor_updSensor_ne z f hpos]
  · simp only [Press.sensorAt, Press.getElem?_zones_updZone_ne _ hzone]

/-- A change that leaves a sensor as usable as it was keeps the source of every zone (R63). -/
theorem sources_setSensor_of_usable_eq {p : PressId} {k : SensorPos} {f : Sensor → Sensor} {s : State}
    (h : (f ((s.press p).sensorAt k)).usable = ((s.press p).sensorAt k).usable) :
    ((setSensor p k f s).press p).zones.map Zone.source = (s.press p).zones.map Zone.source := by
  rw [press_setSensor_same]
  refine List.ext_getElem? fun i => ?_
  rw [List.getElem?_map, List.getElem?_map]
  by_cases hi : i = k.zone
  case neg => rw [Press.getElem?_zones_updZone_ne _ hi]
  case pos =>
    subst hi
    cases hz : (s.press p).zones[k.zone]? with
    | none => simp [Press.updZone, hz]
    | some z =>
      rw [Press.sensorAt_of_zone hz] at h
      rw [Press.getElem?_zones_updZone_same _ hz]
      simp [Zone.source_updSensor_of_usable_eq h]

/-- A change of one press leaves everything outside it. -/
theorem State.sameOutside_updPress (s : State) (p : PressId) (f : Press → Press) : s.sameOutside p (s.updPress p f) :=
  ⟨fun _ hq => s.press_updPress_ne f hq, rfl, rfl, rfl, rfl, rfl, rfl, rfl, rfl, rfl, rfl, rfl⟩

/-! ## Zone updates after a change -/

theorem Press.sourceAt_eq (pr : Press) (i : Nat) : pr.sourceAt i = ((pr.zones.map Zone.source)[i]?).getD .none := by
  unfold Press.sourceAt
  cases h : pr.zones[i]? <;> simp [h]

/-- Where every source is kept, no zone update follows (R63). -/
theorem updateChanged_of_sources_eq {p : PressId} {before s : State}
    (h : (s.press p).zones.map Zone.source = (before.press p).zones.map Zone.source) : updateChanged p before s = s := by
  have hsame : ∀ i, (before.press p).sourceAt i = (s.press p).sourceAt i := fun i => by
    rw [Press.sourceAt_eq, Press.sourceAt_eq, h]
  simp [updateChanged, hsame]

/-! ## RESTORE_SENSOR -/

theorem exec_restoreSensor (payload : Payload) (s : State) :
    exec (.restoreSensor payload) s = answer 0x31 s (restoreSensor payload s) := rfl

theorem restoreSensor_of_no_press {b : Byte} (z q : Byte) (s : State) (h : b.toNat = 0 ∨ 4 < b.toNat) :
    restoreSensor [b, z, q] s = .refuse .badArg 1 := by
  simp [restoreSensor, pressOf_eq_none h]

section Cases

variable {s : State} {p : PressId} {z : Byte} {pos : Position}

theorem restoreSensor_of_unconfigured (h : (s.press p).configured = false) :
    restoreSensor [pressByte p, z, positionByte pos] s = .refuse .badState 0 := by
  simp [restoreSensor, h]

theorem restoreSensor_of_no_zone (hc : (s.press p).configured = true) (h : (s.press p).zoneCount ≤ z.toNat) :
    restoreSensor [pressByte p, z, positionByte pos] s = .refuse .badArg 2 := by
  simp [restoreSensor, hc, h]

theorem restoreSensor_of_unfitted (hc : (s.press p).configured = true) (hz : z.toNat < (s.press p).zoneCount)
    (h : (s.press p).fittedAt ⟨z.toNat, pos⟩ = false) :
    restoreSensor [pressByte p, z, positionByte pos] s = .refuse .badArg 3 := by
  simp [restoreSensor, hc, hz.not_ge, h]

theorem restoreSensor_of_proving (hc : (s.press p).configured = true) (hz : z.toNat < (s.press p).zoneCount)
    (hf : (s.press p).fittedAt ⟨z.toNat, pos⟩ = true) (h : ((s.press p).sensorAt ⟨z.toNat, pos⟩).state = .proving) :
    restoreSensor [pressByte p, z, positionByte pos] s = .refuse .busy 0 := by
  simp [restoreSensor, hc, hz.not_ge, hf, h]

theorem restoreSensor_of_working (hc : (s.press p).configured = true) (hz : z.toNat < (s.press p).zoneCount)
    (hf : (s.press p).fittedAt ⟨z.toNat, pos⟩ = true)
    (h : ((s.press p).sensorAt ⟨z.toNat, pos⟩).state = .ok ∨ ((s.press p).sensorAt ⟨z.toNat, pos⟩).state = .doubtful) :
    restoreSensor [pressByte p, z, positionByte pos] s = .refuse .badState 0 := by
  rcases h with h | h <;> simp [restoreSensor, hc, hz.not_ge, hf, h]

/-- A FAILED sensor becomes DOUBTFUL and unusable as before, so every zone keeps its source. -/
theorem sources_restored {k : SensorPos} (h : ((s.press p).sensorAt k).state = .failed) :
    ((setSensor p k (fun _ => ⟨.doubtful, none, 0⟩) s).press p).zones.map Zone.source = (s.press p).zones.map Zone.source :=
  sources_setSensor_of_usable_eq (Sensor.usable_of_failed h).symm

/-- An accepted RESTORE_SENSOR changes the one sensor, and no zone update follows. -/
theorem restoreSensor_of_failed (hc : (s.press p).configured = true) (hz : z.toNat < (s.press p).zoneCount)
    (hf : (s.press p).fittedAt ⟨z.toNat, pos⟩ = true) (h : ((s.press p).sensorAt ⟨z.toNat, pos⟩).state = .failed) :
    restoreSensor [pressByte p, z, positionByte pos] s =
      .ok [] (setSensor p ⟨z.toNat, pos⟩ (fun _ => ⟨.doubtful, none, 0⟩) s) := by
  simp [restoreSensor, hc, hz.not_ge, hf, h, updateChanged_of_sources_eq (sources_restored h)]

end Cases

/-- Settles O35: each clause is one case of the block's answer; the accepted case by the rules of a change of one sensor. -/
theorem restoreSensorRestores : Obligations.RestoreSensorRestores := by
  intro s p z pos hl
  refine ⟨fun hc => ?unconfigured, fun hc => ⟨fun hz => ?noZone, fun hz hf => ?unfitted, fun hz hf => ⟨fun h => ?proving,
    fun h => ?working, fun h => ?failed⟩⟩, fun b q hb => ?noPress⟩
  case unconfigured =>
    rw [exec_restoreSensor, restoreSensor_of_unconfigured hc]
    exact answer_refuse hl
  case noZone =>
    rw [exec_restoreSensor, restoreSensor_of_no_zone hc hz]
    exact answer_refuse hl
  case unfitted =>
    rw [exec_restoreSensor, restoreSensor_of_unfitted hc hz hf]
    exact answer_refuse hl
  case proving =>
    rw [exec_restoreSensor, restoreSensor_of_proving hc hz hf h]
    exact answer_refuse hl
  case working =>
    rw [exec_restoreSensor, restoreSensor_of_working hc hz hf h]
    exact answer_refuse hl
  case failed =>
    rw [exec_restoreSensor, restoreSensor_of_failed hc hz hf h]
    refine ⟨_, answer_ok hl, rfl, sensorAt_setSensor_same _ hz, sensorsKept_setSensor p _ _ s, ?_, sources_restored h,
      State.sameOutside_updPress s p _⟩
    rw [sendReply_press, press_setSensor_same]
    rfl
  case noPress =>
    rw [exec_restoreSensor, restoreSensor_of_no_press z q s hb]
    exact answer_refuse hl

end Sys2Proof.Machine
end

section
/-! The cure rate (R110): what the rate table answers at each place of a zone value, and the statement O42. The breakpoints
below a zone value do not count (`rateAt_eq_rateAt_drop`), so each clause looks at the head of what is left of the table. -/

namespace Sys2Proof.Machine

section Table

variable {t t0 t1 : Int} {k0 k1 : Nat} {points : List (Int × Nat)}

/-! ## Interpolation -/

/-- A truncated share `x / d` of a rise `c` stays between 0 and `c`. -/
theorem tdiv_share_of_nonneg {c x d : Int} (hc : 0 ≤ c) (hx : 0 ≤ x) (hxd : x ≤ d) (hd : 0 < d) :
    0 ≤ (c * x).tdiv d ∧ (c * x).tdiv d ≤ c := by
  have hcx : 0 ≤ c * x := mul_nonneg hc hx
  rw [Int.tdiv_eq_ediv_of_nonneg hcx]
  exact ⟨Int.ediv_nonneg hcx hd.le, Int.ediv_le_of_le_mul hd (mul_le_mul_of_nonneg_left hxd hc)⟩

/-- A truncated share of a rise or a fall stays between 0 and the whole of it: a fall is the rise of its negative. -/
theorem tdiv_share_between {x d : Int} (c : Int) (hx : 0 ≤ x) (hxd : x ≤ d) (hd : 0 < d) :
    min 0 c ≤ (c * x).tdiv d ∧ (c * x).tdiv d ≤ max 0 c := by
  obtain hc | hc := le_total 0 c
  · obtain ⟨low, high⟩ := tdiv_share_of_nonneg hc hx hxd hd
    exact ⟨min_le_iff.2 (.inl low), le_max_iff.2 (.inr high)⟩
  · obtain ⟨low, high⟩ := tdiv_share_of_nonneg (Int.neg_nonneg.2 hc) hx hxd hd
    rw [neg_mul, Int.neg_tdiv] at low high
    omega

/-! ## The head of the table -/

/-- At or below the first temperature the first rate holds. -/
theorem rateAt_cons_of_le (h : t ≤ t0) : rateAt ((t0, k0) :: points) t = k0 := by
  cases points with
  | nil => rfl
  | cons x rest => simp [rateAt, h]

/-- Above the first temperature, from the second on, the first breakpoint does not count. -/
theorem rateAt_cons_cons_of_ge (h0 : t0 < t) (h1 : t1 ≤ t) :
    rateAt ((t0, k0) :: (t1, k1) :: points) t = rateAt ((t1, k1) :: points) t := by
  simp [rateAt, h0.not_ge, h1.not_gt]

/-- Between the first two temperatures the rate is interpolated with truncation toward zero. -/
theorem rateAt_cons_cons_of_between (h0 : t0 ≤ t) (h1 : t < t1) :
    (rateAt ((t0, k0) :: (t1, k1) :: points) t : Int) = k0 + (((k1 : Int) - k0) * (t - t0)).tdiv (t1 - t0) := by
  obtain rfl | h0 := h0.eq_or_lt
  · simp [rateAt_cons_of_le]
  · obtain ⟨low, -⟩ := tdiv_share_between ((k1 : Int) - k0) (x := t - t0) (d := t1 - t0) (by omega) (by omega) (by omega)
    simp only [rateAt, h0.not_ge, h1, if_false, if_true]
    omega

/-- An interpolated rate lies between the two rates, both included. -/
theorem rateAt_cons_cons_mem (h0 : t0 ≤ t) (h1 : t < t1) :
    min k0 k1 ≤ rateAt ((t0, k0) :: (t1, k1) :: points) t ∧ rateAt ((t0, k0) :: (t1, k1) :: points) t ≤ max k0 k1 := by
  have value := rateAt_cons_cons_of_between (k0 := k0) (k1 := k1) (points := points) h0 h1
  obtain ⟨low, high⟩ :=
    tdiv_share_between ((k1 : Int) - k0) (x := t - t0) (d := t1 - t0) (by omega) (by omega) (by omega)
  omega

/-! ## The whole table -/

/-- In a rising table no breakpoint lies below the first. -/
theorem head_le_of_getElem? {x y : Int × Nat} {i : Nat} (hp : (x :: points).Pairwise fun a b => a.1 < b.1)
    (hi : (x :: points)[i]? = some y) : x.1 ≤ y.1 := by
  obtain rfl | hy := List.mem_cons.1 (List.mem_of_getElem? hi)
  · exact le_rfl
  · exact (List.rel_of_pairwise_cons hp hy).le

/-- The breakpoints before one at or below the zone value do not count. -/
theorem rateAt_eq_rateAt_drop {i : Nat} {ti : Int} {ki : Nat} (hp : points.Pairwise fun a b => a.1 < b.1)
    (hi : points[i]? = some (ti, ki)) (h : ti ≤ t) : rateAt points t = rateAt ((ti, ki) :: points.drop (i + 1)) t := by
  induction i generalizing points with
  | zero =>
    obtain ⟨rest, rfl⟩ := List.head?_eq_some_iff.1 (List.head?_eq_getElem?.trans hi)
    rfl
  | succ i ih =>
    match points with
    | [] => simp at hi
    | [_] => simp at hi
    | x :: y :: rest =>
      have hi' : (y :: rest)[i]? = some (ti, ki) := hi
      have hxy : x.1 < y.1 := List.rel_of_pairwise_cons hp (List.mem_cons_self ..)
      have hy : y.1 ≤ t := (head_le_of_getElem? hp.of_cons hi').trans h
      calc rateAt (x :: y :: rest) t
          = rateAt (y :: rest) t := rateAt_cons_cons_of_ge (hxy.trans_le hy) hy
        _ = rateAt ((ti, ki) :: (y :: rest).drop (i + 1)) t := ih hp.of_cons hi'

/-- No rate exceeds a bound of the table's rates. -/
theorem rateAt_le {m : Nat} (hm : ∀ x ∈ points, x.2 ≤ m) (t : Int) : rateAt points t ≤ m := by
  induction points with
  | nil => exact m.zero_le
  | cons x points ih =>
    obtain ⟨hx, hm⟩ := List.forall_mem_cons.1 hm
    obtain h | h0 := le_or_gt t x.1
    · exact (rateAt_cons_of_le h).trans_le hx
    · match points with
      | [] => exact hx
      | y :: rest =>
        obtain h1 | h1 := lt_or_ge t y.1
        · exact (rateAt_cons_cons_mem h0.le h1).2.trans (max_le hx (hm y (List.mem_cons_self ..)))
        · exact (rateAt_cons_cons_of_ge h0 h1).trans_le (ih hm)

end Table

/-- Settles O42: each clause drops the breakpoints below the zone value and reads the head of the rest. -/
theorem cureRateInterpolates : Obligations.CureRateInterpolates := by
  intro points hlen hp hm
  refine ⟨fun T t0 k0 h0 hT => ?below, fun T t15 k15 h15 hT => ?above, fun T i ti ki tj kj hi hj hiT hTj => ?between,
    fun i ti ki hi => ?breakpoint, rateAt_le hm⟩
  case below =>
    obtain ⟨rest, rfl⟩ := List.head?_eq_some_iff.1 (List.head?_eq_getElem?.trans h0)
    exact rateAt_cons_of_le hT
  case above =>
    rw [rateAt_eq_rateAt_drop hp h15 hT, List.drop_of_length_le hlen.le]
    rfl
  case between =>
    obtain ⟨hlt, hget⟩ := List.getElem?_eq_some_iff.1 hj
    rw [rateAt_eq_rateAt_drop hp hi hiT, List.drop_eq_getElem_cons hlt, hget]
    exact ⟨rateAt_cons_cons_of_between hiT hTj, rateAt_cons_cons_mem hiT hTj⟩
  case breakpoint =>
    rw [rateAt_eq_rateAt_drop hp hi le_rfl]
    exact rateAt_cons_of_le le_rfl

end Sys2Proof.Machine
end
